-- ==== Sys2Proof/Word.lean ====
section
/-! DEFINITION. The words of the block: the widths of its registers and of its command word (00_scope R8, R9;
10_state R13; 30_encoding R47, R55). `a +8 b` and `a -8 b` of R9 are `+` and `-` on `Byte`; every comparison is
unsigned, as `BitVec`'s order is. -/

namespace Sys2Proof

/-- An 8-bit unsigned value: a tick (R13, R14). -/
abbrev Byte := BitVec 8

/-- The debounce shift register's word, `DEB_W` = 16 bits (R5, R16). -/
abbrev DebWord := BitVec 16

/-- One command word, exactly 3 bits (R47, R52). -/
abbrev CommandWord := BitVec 3

/-- The output port word, 7 bits (R55). -/
abbrev PortWord := BitVec 7

/-- The level of a line: `true` is high (1), `false` is low (0) (R23, R24). -/
abbrev Level := Bool

end Sys2Proof
end

