-- ==== Sys2Proof/Config.lean ====
section
/-! DEFINITION. The implementation parameters of 00_scope R5: the fixed ones as constants, the configurable ones as the
record `Config`, and `TICK_PERIOD`, which the spec leaves OPEN, as a constant with no body. -/

namespace Sys2Proof

/-- `TICK_MOD` = 2^`TICK_W` (R5, fixed). -/
def tickMod : Nat := 256

/-- `WRAP_RESET` = `TICK_MOD` - 1 (R5, fixed). -/
def wrapReset : Byte := 255

/-- `DEB_W` (R5, fixed at 16; D5). -/
def debWidth : Nat := 16

/-- `N_BANDS` (R5, fixed). -/
def numBands : Nat := 3

/-- `N_PULSES` (R5, fixed). -/
def numPulses : Nat := 4

/-- `PREV_SENTINEL` (R5, fixed). -/
def prevSentinel : Nat := 3

/-- The parameters a model takes as an argument (R5, R7). `PULSE_D` is a byte, so its legal range 0..255 (R7) is its
type. DESIGN CHOICE (log 1): a `Config` stands in `State`, no operation writes it. -/
structure Config where
  /-- `PULSE_D`, the pulse duration in ticks (R5, R7). -/
  pulseD : Byte
  /-- `DEB_MASK` (R5, R6). -/
  debMask : DebWord
  /-- `DEB_TRIGGER`, the "confirmed press" pattern (R5, R6). -/
  debTrigger : DebWord
  /-- `DEB_SEED`, the reset value of `DEB` (R5, R6). -/
  debSeed : DebWord
  deriving DecidableEq, Repr

/-- The default column of R5's table. -/
def Config.defaults : Config :=
  { pulseD := 3, debMask := 0xE000, debTrigger := 0xF000, debSeed := 0xFFFF }

/-- The debounce parameters at R5's defaults, any pulse duration. -/
def Config.debDefaults (d : Byte) : Config := { Config.defaults with pulseD := d }

/-- `TICK_PERIOD` is OPEN: any positive duration (R5, D14). It is one more than this number, in a unit of time that
the model does not fix. DESIGN CHOICE (log 6): nothing in Lean can evaluate it. -/
opaque tickPeriodLessOne : Nat

/-- `TICK_PERIOD`: positive, otherwise unknown; no rule of an operation reads it (R5, R138). -/
def tickPeriod : Nat := tickPeriodLessOne + 1

/-- A count of ticks as a duration: the one use of `TICK_PERIOD` (R5: "It only converts tick counts to time"). -/
def ticksToTime (k : Nat) : Nat := k * tickPeriod

end Sys2Proof
end

