-- ==== Sys2Proof/Syntax.lean ====
section
/-! DEFINITION. The operations a command word selects: one constructor per row of spec/opcode_table.json
(30_encoding R48, R60). The reserved words spell no operation (R51) and are no constructor. -/

namespace Sys2Proof

/-- The three operations of the block (R48). -/
inductive Instr where
  /-- ITER b: one iteration of the main loop (R62). `b` is the B field, the level of the active-low button line
  `BTN_N`: `false` is a pressed sample, `true` a released one (R49). -/
  | iter (b : Level)
  /-- TICK: one tick-overflow event (R61). It has no operand; the word's B field is ignored (R50). -/
  | tick
  /-- RESET: power-on or any other reset (R128). It has no operand; the word's B field is ignored (R50). -/
  | reset
  deriving DecidableEq, Repr

end Sys2Proof
end

