-- ==== Sys2Proof/WellFormed.lean ====
section
/-! DEFINITION. What must hold of a configuration (00_scope R5, R6), of a command word (30_encoding R51, R59) and of an
instruction before the block runs. -/

namespace Sys2Proof

/-- The index of the lowest set bit of a 16-bit word, 16 if none is set. -/
def lowestSetBit (v : DebWord) : Nat :=
  ((List.range debWidth).find? fun i => v.getLsbD i).getD debWidth

/-- `DEB_N`, the run length: "the index of the lowest set bit of `DEB_TRIGGER`" (R5). -/
def Config.debN (c : Config) : Nat := lowestSetBit c.debTrigger

/-- Ones in bits [15 : N+1], zeros below (R6). -/
def Config.onesAboveN (c : Config) : DebWord := BitVec.allOnes 16 <<< (c.debN + 1)

/-- R6, first condition: `1 <= DEB_N <= DEB_W - 2`. -/
def Config.runLengthInRange (c : Config) : Bool := 1 ≤ c.debN && c.debN ≤ debWidth - 2

/-- R6, second condition: `DEB_MASK` has ones in bits [15 : N+1] and zeros in bits [N : 0]. -/
def Config.maskShape (c : Config) : Bool := c.debMask == c.onesAboveN

/-- R6, third condition: `DEB_TRIGGER = DEB_MASK | (1 << DEB_N)`. -/
def Config.triggerShape (c : Config) : Bool := c.debTrigger == (c.debMask ||| ((1 : DebWord) <<< c.debN))

/-- R6, fourth condition: bits [15 : N+1] of `DEB_SEED` are all set. -/
def Config.seedShape (c : Config) : Bool := (c.debSeed &&& c.onesAboveN) == c.onesAboveN

/-- R5's legal range of `DEB_SEED`: "any 16-bit value with bits 15..13 set", whatever `DEB_N` is. -/
def Config.seedRange (c : Config) : Bool := (c.debSeed &&& 0xE000) == 0xE000

/-- A configuration is well formed only when all four conditions of R6 hold; a model refuses any other. DEDUCED (log 16): R5's
range of the seed is asked for beside R6's condition on it; the two differ where `DEB_N` is not 12. -/
def Config.wf (c : Config) : Bool :=
  c.runLengthInRange && c.maskShape && c.triggerShape && c.seedShape && c.seedRange

/-- A command word spells an operation when its `OP` field is not the reserved 0b11 (R51, R59). -/
def wordWellFormed (w : CommandWord) : Bool := w.extractLsb' 1 2 != 0b11

/-- Every instruction is well formed: "No field of a word needs a well-formedness check other than `OP`" (R59). -/
def Instr.wellFormed : Instr → Bool
  | .iter _ => true
  | .tick => true
  | .reset => true

end Sys2Proof
end

