-- ==== Sys2Proof/Decode.lean ====
section
/-! DEFINITION. Decoding a command word (30_encoding R47 to R52, R59, R60), and after it the encoder. Decoding is total
on every 3-bit word; the two reserved words get the verdict `reserved`. -/

namespace Sys2Proof

/-- What decoding a word answers (R51, R59). -/
inductive Verdict where
  /-- The word selects this operation. -/
  | operation (i : Instr)
  /-- "A decoder returns the verdict `reserved`" (R51). -/
  | reserved
  deriving DecidableEq, Repr

/-- The `OP` field, bits [2:1] (R47). -/
def opField (w : CommandWord) : BitVec 2 := w.extractLsb' 1 2

/-- The `B` field, bit [0] (R47, R49). -/
def bField (w : CommandWord) : Level := w.getLsbD 0

/-- R59's `decode`. -/
def decode (w : CommandWord) : Verdict :=
  if opField w = 0b00 then .operation (.iter (bField w))
  else if opField w = 0b01 then .operation .tick
  else if opField w = 0b10 then .operation .reset
  else .reserved

/-- The operations of a list of command words, in list order (R47); none where a word is reserved. -/
def decodeAll : List CommandWord → Option (List Instr)
  | [] => some []
  | w :: ws =>
    match decode w, decodeAll ws with
    | .operation i, some is => some (i :: is)
    | _, _ => none

/-- A row of the opcode map (R60). -/
structure OpcodeRow where
  /-- The bits the word has where the mask is set. -/
  matchBits : CommandWord
  /-- Which bits of the word are fixed. -/
  mask : CommandWord
  deriving DecidableEq, Repr

/-- The opcode map's three rows, ITER, TICK and RESET (R60, spec/opcode_table.json). -/
def opcodeMap : List OpcodeRow :=
  [ { matchBits := 0b000, mask := 0b110 },
    { matchBits := 0b010, mask := 0b110 },
    { matchBits := 0b100, mask := 0b110 } ]

/-- The word is one of the row's. -/
def OpcodeRow.holds (r : OpcodeRow) (w : CommandWord) : Bool := (w &&& r.mask) == r.matchBits

/-- The row of R60 an instruction belongs to. -/
def Instr.row : Instr → OpcodeRow
  | .iter _ => { matchBits := 0b000, mask := 0b110 }
  | .tick => { matchBits := 0b010, mask := 0b110 }
  | .reset => { matchBits := 0b100, mask := 0b110 }

/-- The word of an instruction, as an assembler writes it: `OP` from R48, `B` the sample of an ITER (R49) and 0 in
TICK and RESET (R50, R57). -/
def encode : Instr → CommandWord
  | .iter b => 0b00#2 ++ BitVec.ofBool b
  | .tick => 0b01#2 ++ 0b0#1
  | .reset => 0b10#2 ++ 0b0#1

/-- The 3-bit word that a number holds in its low `nbits` bits: "A decoder takes the next 3 bits of the stream as one
word" (R52). DEDUCED (log 8): bits above the third belong to no field of the word. -/
def tableWord (nbits w : Nat) : CommandWord := BitVec.ofNat 3 (w % 2 ^ nbits)

/-- The host's entry to the decoder: the instruction of a word numbered as spec/opcode_table.json numbers it. -/
def decodeTableWord (nbits w : Nat) : Option Instr :=
  match decode (tableWord nbits w) with
  | .operation i => some i
  | .reserved => none

end Sys2Proof
end

