-- ==== Sys2Proof/Machine/State.lean ====
section
/-! DEFINITION. The state of the block, exactly the record of 10_state R13 (`Block`), and the machine's state around it
(`State`): the block, the parameters of 00_scope R5, the commands still to come (30_encoding R47) and the run's refusal
mark (60_exceptions R117). The reset state (10_state R32). -/

namespace Sys2Proof.Machine

/-- `BAND`: three values and no fourth (10_state R17). -/
inductive Band where
  /-- 0, 40 m. -/
  | m40
  /-- 1, 20 m. -/
  | m20
  /-- 2, 15 m. -/
  | m15
  deriving DecidableEq, Repr

/-- `PREV_BAND`: a band, or the sentinel 3, "no band has been dispatched since reset" (10_state R18). -/
inductive PrevBand where
  /-- The last band the dispatcher acted on. -/
  | dispatched (b : Band)
  /-- The out-of-range sentinel, code 3. -/
  | sentinel
  deriving DecidableEq, Repr

/-- One entry `P[i]` of the relay-pulse file (10_state R19, R20, R30). -/
structure Pulse where
  /-- `P[i].A`, the asserted flag, which is also the level of relay-driver line i (R19, R24). -/
  a : Level
  /-- `P[i].S`, the assertion tick (R20). -/
  s : Byte
  deriving DecidableEq, Repr

/-- The pulse index i = 0..3, in this order (30_encoding R54). -/
inductive PulseId where
  /-- i = 0, pair 1&2, set. -/
  | r12Set
  /-- i = 1, pair 1&2, reset. -/
  | r12Reset
  /-- i = 2, pair 3&4, set. -/
  | r34Set
  /-- i = 3, pair 3&4, reset. -/
  | r34Reset
  deriving DecidableEq, Repr

/-- The relay-pulse file: four entries, no windows or banks (10_state R30). -/
structure Pulses where
  /-- `P[0]`. -/
  r12Set : Pulse
  /-- `P[1]`. -/
  r12Reset : Pulse
  /-- `P[2]`. -/
  r34Set : Pulse
  /-- `P[3]`. -/
  r34Reset : Pulse
  deriving DecidableEq, Repr

/-- The state of the block: "exactly the record below ... No other field exists" (10_state R13). -/
structure Block where
  /-- `TICK`, the tick counter (R14). -/
  tick : Byte
  /-- `LAST_TICK`, the snapshot the gate compares with (R15). -/
  lastTick : Byte
  /-- `DEB`, the debounce shift register (R16). -/
  deb : DebWord
  /-- `BAND`, the current band (R17). -/
  band : Band
  /-- `PREV_BAND`, the last dispatched band (R18). -/
  prevBand : PrevBand
  /-- `P[0..3]`, the relay pulses (R19, R20, R30). -/
  pulses : Pulses
  /-- `OUT_15M`, an indicator line (R21). -/
  out15m : Level
  /-- `OUT_20M`, an indicator line (R21). -/
  out20m : Level
  /-- `CAL`, the calibration line (R22). -/
  cal : Level
  deriving DecidableEq, Repr

/-- The machine's state. -/
structure State where
  /-- The parameters (00_scope R5). No operation writes them. DESIGN CHOICE (log 1). -/
  cfg : Config
  /-- The block's state (10_state R13). -/
  block : Block
  /-- The command words still to come, the next one first (30_encoding R47). DESIGN CHOICE (log 2). -/
  stream : List CommandWord
  /-- The run's refusal mark, "which no later operation clears" (60_exceptions R117). -/
  refusalMark : Bool
  deriving DecidableEq, Repr

/-- The block raises no exception and records no fault, and no operation can fail (60_exceptions R112; 70_reset R140:
"no halt, no fault and no stuck state"): there is no reason to fault, so the type has no constructor (log 7). -/
inductive Fault where
  deriving DecidableEq, Repr

/-- Why the model refuses. None is raised by an operation of the block. -/
inductive Refusal where
  /-- Raised by an arm of `exec` for an instruction that has no meaning yet; no arm does. Safe: the run stops. -/
  | notModelled (mnemonic : String)
  /-- Raised by `step` on a reserved command word, "refused, not trapped" (30_encoding R51, 60_exceptions R117).
  `w` is the word; `marked` is the state the refusal leaves: no field of the block changed, the mark set. Safe: the
  run stops, and no claim about a next state holds of it. -/
  | reservedWord (w : CommandWord) (marked : State)
  /-- Raised by `step` in a run whose refusal mark is set: it "is refused as a whole" (R117). Safe: the run stops. -/
  | runRefused
  /-- Raised by `step` under parameters that fail 00_scope R6 ("A model refuses a configuration that fails them") or R5's range.
  Safe: the run stops. -/
  | configIllFormed
  deriving DecidableEq, Repr

/-- The reset values of 10_state R32, under the parameters `c` (`DEB` starts at `DEB_SEED`). -/
def Block.atReset (c : Config) : Block where
  tick := 0x00
  lastTick := 0xFF
  deb := c.debSeed
  band := .m40
  prevBand := .sentinel
  pulses := { r12Set := ⟨false, 0x00⟩, r12Reset := ⟨false, 0x00⟩, r34Set := ⟨false, 0x00⟩, r34Reset := ⟨false, 0x00⟩ }
  out15m := false
  out20m := false
  cal := false

/-- The start of a run under the parameters `c`: the state RESET gives (70_reset R129, R140), no command supplied yet,
the mark clear. -/
def State.powerOn (c : Config) : State where
  cfg := c
  block := Block.atReset c
  stream := []
  refusalMark := false

/-- The machine right after reset, with the default parameters of 00_scope R5. -/
def State.reset : State := State.powerOn Config.defaults

end Sys2Proof.Machine
end

