-- ==== Sys2Proof/Machine/Ops.lean ====
section
/-! DEFINITION. The named operations over the state: the write `s.F <- v` of each field (00_scope R10), the relay-pulse
file's access by index (10_state R30), and the machine's own operations on the command stream and the refusal mark
(30_encoding R47, R51, R52; 60_exceptions R117). The block has no memory (20_memory R36) and takes no exception
(60_exceptions R112), so neither has an operation here; what the spec has in their place is `State.refuse`. -/

namespace Sys2Proof.Machine

/-- `s.TICK <- v`. -/
def Block.setTick (v : Byte) (k : Block) : Block := { k with tick := v }

/-- `s.LAST_TICK <- v`. -/
def Block.setLastTick (v : Byte) (k : Block) : Block := { k with lastTick := v }

/-- `s.DEB <- v`. -/
def Block.setDeb (v : DebWord) (k : Block) : Block := { k with deb := v }

/-- `s.BAND <- v`. -/
def Block.setBand (v : Band) (k : Block) : Block := { k with band := v }

/-- `s.PREV_BAND <- v`. -/
def Block.setPrevBand (v : PrevBand) (k : Block) : Block := { k with prevBand := v }

/-- The relay-pulse file as a whole. -/
def Block.setPulses (v : Pulses) (k : Block) : Block := { k with pulses := v }

/-- `s.OUT_15M <- v`. -/
def Block.setOut15m (v : Level) (k : Block) : Block := { k with out15m := v }

/-- `s.OUT_20M <- v`. -/
def Block.setOut20m (v : Level) (k : Block) : Block := { k with out20m := v }

/-- `s.CAL <- v`. -/
def Block.setCal (v : Level) (k : Block) : Block := { k with cal := v }

/-- Read `P[i]` (10_state R30). -/
def Pulses.get (ps : Pulses) : PulseId → Pulse
  | .r12Set => ps.r12Set
  | .r12Reset => ps.r12Reset
  | .r34Set => ps.r34Set
  | .r34Reset => ps.r34Reset

/-- Write `P[i]`; every other entry is untouched (10_state R30). -/
def Pulses.set (ps : Pulses) (i : PulseId) (p : Pulse) : Pulses :=
  match i with
  | .r12Set => { ps with r12Set := p }
  | .r12Reset => { ps with r12Reset := p }
  | .r34Set => { ps with r34Set := p }
  | .r34Reset => { ps with r34Reset := p }

/-- Apply one function to every entry, each on its own (43_pulse R99's `for i in 0..3`). -/
def Pulses.map (f : Pulse → Pulse) (ps : Pulses) : Pulses :=
  { r12Set := f ps.r12Set, r12Reset := f ps.r12Reset, r34Set := f ps.r34Set, r34Reset := f ps.r34Reset }

/-- The block of the machine's state is replaced; the parameters, the stream and the mark stay. -/
def State.setBlock (k : Block) (s : State) : State := { s with block := k }

/-- The commands still to come are replaced; nothing else changes. -/
def State.setStream (ws : List CommandWord) (s : State) : State := { s with stream := ws }

/-- `refuse(reason)` (00_scope R10): it changes no field of the block and sets the run's refusal mark
(30_encoding R51, 60_exceptions R117). -/
def State.refuse (s : State) : State := { s with refusalMark := true }

/-- The next word of the stream and the words after it (30_encoding R47, R52); none when the stream has ended. -/
def State.fetch (s : State) : Option (CommandWord × List CommandWord) :=
  match s.stream with
  | [] => none
  | w :: ws => some (w, ws)

/-- The environment supplies `w` as the next command word, before those already supplied (00_scope R2 (c); log 2). -/
def State.supply (w : CommandWord) (s : State) : State := s.setStream (w :: s.stream)

end Sys2Proof.Machine
end

