-- ==== Sys2Proof/Machine/Operands.lean ====
section
/-! DEFINITION. What an operation reads from outside itself: the ITER's sample of the button line and its one snapshot
of `TICK` (60_exceptions R127), and the gate that compares the snapshot with `LAST_TICK` (40_step R64). -/

namespace Sys2Proof.Machine

/-- `zext_16(b)`: the sample an ITER shifts in is its B field, the level of the active-low line, 0 for pressed and 1
for released, zero-extended (30_encoding R49, 41_debounce R72; 90_conflicts C1). -/
def sample (b : Level) : DebWord := (BitVec.ofBool b).setWidth 16

/-- `now`: the one read of `TICK` in an ITER (40_step R63). -/
def Block.now (k : Block) : Byte := k.tick

/-- The ITER is gated: the gate is open when `now != LAST_TICK` (40_step R64). -/
def Block.gated (k : Block) : Bool := k.now != k.lastTick

end Sys2Proof.Machine
end

