-- ==== Sys2Proof/Machine/Debounce.lean ====
section
/-! DEFINITION. The sub-operations of a gated ITER that 41_debounce_band gives: the debounce shift (R71), the trigger
test (R73), the band advance (R74) and the calibration toggle (R75). -/

namespace Sys2Proof.Machine

/-- The value DEB_SHIFT(b) writes: `trunc_16((DEB << 1) | zext_16(b) | DEB_MASK)` (R71).
DEDUCED (log 18): R71's remark that bits 15..13 are set again holds where they are the mask's, `DEB_N` at most 12.
DEDUCED (log 19): R78 says that under every well-formed seed with bit `DEB_N` clear a button held from reset never triggers; by
R71 and R73 it does where a lower bit of the seed is set, and the model follows those. -/
def debShift (c : Config) (b : Level) (v : DebWord) : DebWord := (v <<< 1) ||| sample b ||| c.debMask

/-- DEB_SHIFT(b) (R71). -/
def Block.debShift (c : Config) (b : Level) (k : Block) : Block := k.setDeb (Machine.debShift c b k.deb)

/-- The trigger test: an exact 16-bit equality, not a threshold and not a mask test (R73). -/
def Block.triggered (c : Config) (k : Block) : Bool := k.deb == c.debTrigger

/-- The band after this one: 2 goes to 0 (R74). -/
def Band.next : Band → Band
  | .m40 => .m20
  | .m20 => .m15
  | .m15 => .m40

/-- BAND_ADVANCE (R74). -/
def Block.bandAdvance (k : Block) : Block := k.setBand k.band.next

/-- The trigger test and, where it holds, the band advance (40_step R62, 41_debounce R73). -/
def Block.testTrigger (c : Config) (k : Block) : Block := if k.triggered c then k.bandAdvance else k

/-- `s.CAL <- ~s.CAL` (R75). -/
def Block.toggleCal (k : Block) : Block := k.setCal (!k.cal)

end Sys2Proof.Machine
end

