-- ==== Sys2Proof/Machine/Flags.lean ====
section
/-! DEFINITION. The flags of the block are the four `P[i].A` and nothing else (10_state R27): arming sets one
(42_dispatch R90), the expiry engine clears them by the wraparound-safe elapsed test (43_pulse R98, R99). -/

namespace Sys2Proof.Machine

/-- `delta = WRAP_RESET - PULSE_D`, 0..255 (43_pulse R98, 00_scope R7). -/
def delta (c : Config) : Byte := wrapReset - c.pulseD

/-- EXPIRED(start, now), the three-branch test in 8-bit wrapping arithmetic (43_pulse R98, R103; 90_conflicts C2). -/
def expired (c : Config) (start now : Byte) : Bool :=
  if delta c ≤ start then
    if delta c ≤ now then false
    else decide (c.pulseD ≤ now - start + wrapReset)
  else decide (c.pulseD ≤ now - start)

/-- ARM(i, now): the flag is set and `now` recorded as the assertion tick (42_dispatch R90). -/
def Block.arm (i : PulseId) (now : Byte) (k : Block) : Block :=
  k.setPulses (k.pulses.set i { a := true, s := now })

/-- One entry of EXPIRE_ALL: `A <- A & ~EXPIRED(S, now)`, `S` not written (43_pulse R99). -/
def Pulse.expire (c : Config) (now : Byte) (p : Pulse) : Pulse :=
  { p with a := p.a && !expired c p.s now }

/-- EXPIRE_ALL(now): the test applied to all four pulses (43_pulse R99). -/
def Block.expireAll (c : Config) (now : Byte) (k : Block) : Block :=
  k.setPulses (k.pulses.map (Pulse.expire c now))

/-- `PFLAGS`, the field number 5 of 10_state R28: bit i is `P[i].A`. -/
def Block.pflags (k : Block) : BitVec 4 :=
  BitVec.ofBool k.pulses.r34Reset.a ++ BitVec.ofBool k.pulses.r34Set.a ++ BitVec.ofBool k.pulses.r12Reset.a
    ++ BitVec.ofBool k.pulses.r12Set.a

end Sys2Proof.Machine
end

