-- ==== Sys2Proof/Machine/Dispatcher.lean ====
section
/-! DEFINITION. The band dispatcher and GPIO output sequencer (42_dispatch R86 to R91). It only ever asserts a pulse;
clearing one is the expiry engine's (R92). -/

namespace Sys2Proof.Machine

/-- ROW0(now), band 0 (40 m): both indicators low, R12-reset and R34-reset armed (R87). -/
def Block.row0 (now : Byte) (k : Block) : Block :=
  (((k.setOut15m false).setOut20m false).arm .r12Reset now).arm .r34Reset now

/-- ROW1(now), band 1 (20 m): 20m-out high, R12-reset and R34-set armed (R88). -/
def Block.row1 (now : Byte) (k : Block) : Block :=
  (((k.setOut15m false).setOut20m true).arm .r12Reset now).arm .r34Set now

/-- ROW2(now), band 2 (15 m): 15m-out high, R12-set armed, the R34 pair left as it is (R89; 90_conflicts C5). -/
def Block.row2 (now : Byte) (k : Block) : Block :=
  ((k.setOut15m true).setOut20m false).arm .r12Set now

/-- The table's row for a band: exactly one for each (R86). -/
def Block.row (b : Band) (now : Byte) (k : Block) : Block :=
  match b with
  | .m40 => k.row0 now
  | .m20 => k.row1 now
  | .m15 => k.row2 now

/-- DISPATCH(now): where `BAND != PREV_BAND`, the band's row and then `PREV_BAND <- BAND` (R86, R91). -/
def Block.dispatch (now : Byte) (k : Block) : Block :=
  if PrevBand.dispatched k.band = k.prevBand then k
  else (k.row k.band now).setPrevBand (.dispatched k.band)

end Sys2Proof.Machine
end

