-- ==== Sys2Proof/Machine/Iter.lean ====
section
/-! DEFINITION. ITER, one iteration of the main loop (40_step R62 to R67). -/

namespace Sys2Proof.Machine

/-- What only a gated ITER runs, in the order of 40_step R67: the snapshot, the debounce shift, the trigger test and
band advance, the calibration toggle, the dispatcher (R62, R65).
DEDUCED (log 20): 42_dispatch R94 says that the first one after reset dispatches band 0; under a legal seed that a pressed first
sample brings to the trigger pattern it dispatches band 1, as 41_debounce R71 and R73 give it. -/
def Block.gatedPart (c : Config) (b : Level) (now : Byte) (k : Block) : Block :=
  ((((k.setLastTick now).debShift c b).testTrigger c).toggleCal).dispatch now

/-- ITER(b) on the block: one read of `TICK`, the gate, the gated part, and the expiry engine always (R62, R63, R66).
DEDUCED (log 17): a second ITER with no TICK before it leaves the state of the first, as R62 and R69 give it; 20_memory R40
says that two such ITERs differ from one, which holds of what each of the two does. -/
def Block.iter (c : Config) (b : Level) (k : Block) : Block :=
  let now := k.now
  (if k.gated then k.gatedPart c b now else k).expireAll c now

/-- ITER: no exception, always a next state (R62; 60_exceptions R112). -/
def execIter (b : Level) (s : State) : Host.Outcome State Fault Refusal :=
  .next (s.setBlock (s.block.iter s.cfg b))

end Sys2Proof.Machine
end

