-- ==== Sys2Proof/Machine/Reset.lean ====
section
/-! DEFINITION. RESET, power-on or any other reset of the block (70_reset R128). -/

namespace Sys2Proof.Machine

/-- R128's pseudocode: every field is written, and `DEB` takes the parameter `DEB_SEED`. -/
def Block.resetAll (c : Config) (k : Block) : Block :=
  (((((((((((k.setTick 0x00).setLastTick 0xFF).setDeb c.debSeed).setBand .m40).setPrevBand .sentinel).setPulses
    (k.pulses.map fun _ => { a := false, s := 0x00 })).setOut15m false).setOut20m false).setCal false)))

/-- RESET: no exception, always a next state; the run's refusal mark is not cleared (R128). -/
def execReset (s : State) : Host.Outcome State Fault Refusal :=
  .next (s.setBlock (s.block.resetAll s.cfg))

end Sys2Proof.Machine
end

