-- ==== Sys2Proof/Machine/Tick.lean ====
section
/-! DEFINITION. TICK, one tick-overflow event (40_step R61): the whole effect of the tick interrupt, which saves and
restores nothing (60_exceptions R113, R114, R116). -/

namespace Sys2Proof.Machine

/-- `s.TICK <- s.TICK +8 1`: at 255 the result is 0, with no carry and no other effect (R61). -/
def Block.countTick (k : Block) : Block := k.setTick (k.tick + 1)

/-- TICK: no exception, always a next state (R61). -/
def execTick (s : State) : Host.Outcome State Fault Refusal :=
  .next (s.setBlock s.block.countTick)

end Sys2Proof.Machine
end

