-- ==== Sys2Proof/Machine/Step.lean ====
section
/-! DEFINITION. One step of the machine: the next command word of the stream is taken, decoded and run (30_encoding R47,
R52). Everything a test could show wrong is called here, not written here. -/

namespace Sys2Proof.Machine

/-- One step. A run whose mark is set stays refused (60_exceptions R117); parameters that fail 00_scope R5 or R6 are refused;
an ended stream leaves the state as it is, since no operation is selected (70_reset R140; DESIGN CHOICE, log 3); a
reserved word refuses the run (30_encoding R51; log 4); any other word selects its operation, which runs whole. -/
def step (s : State) : Host.Outcome State Fault Refusal :=
  if s.refusalMark then .refused .runRefused
  else if s.cfg.wf then
    match s.fetch with
    | none => .next s
    | some (w, ws) =>
      match decode w with
      | .operation i => exec i (s.setStream ws)
      | .reserved => .refused (.reservedWord w (s.setStream ws).refuse)
  else .refused .configIllFormed

/-- `s` with the word supplied as the next command word, before any already supplied (log 2, log 8). -/
def State.withFetchWord (s : State) (nbits w : Nat) : State := s.supply (tableWord nbits w)

end Sys2Proof.Machine
end

