-- ==== Sys2Proof/Machine/Assembler.lean ====
section
/-! DEFINITION. The assembler's lines, their text and their pseudo-instructions (30_encoding R57, R58). Text is a list of
characters. The operand's blanks and empty lines are conventions of this model (DESIGN CHOICE, log 9). -/

namespace Sys2Proof.Machine

/-- One line of a command stream: an operation (R57) or a pseudo-instruction with its operands (R58). -/
inductive AsmLine where
  /-- `ITER b`, `TICK` or `RESET`. -/
  | op (i : Instr)
  /-- `TI b`: one tick, then one iteration that sees it. -/
  | ti (b : Level)
  /-- `HOLD b, n`: the button held at level b for n ticks. -/
  | hold (b : Level) (n : Nat)
  /-- `PRESS n`. -/
  | press (n : Nat)
  /-- `RELEASE n`. -/
  | release (n : Nat)
  /-- `SPIN b, n`: n iterations with no tick. -/
  | spin (b : Level) (n : Nat)
  /-- `TICKS n`: n ticks with no iteration. -/
  | ticks (n : Nat)
  deriving DecidableEq, Repr

/-- "Counts n are decimal integers, n >= 1" (R58). -/
def AsmLine.wellFormed : AsmLine → Bool
  | .op _ => true
  | .ti _ => true
  | .hold _ n => 1 ≤ n
  | .press n => 1 ≤ n
  | .release n => 1 ≤ n
  | .spin _ n => 1 ≤ n
  | .ticks n => 1 ≤ n

/-- `TI b` is `TICK`, then `ITER b` (R58). -/
def tickIter (b : Level) : List Instr := [.tick, .iter b]

/-- One `TI` for each sample of a list, the one-tick cadence of 70_reset R132. -/
def tickIters (bs : List Level) : List Instr := bs.flatMap tickIter

/-- The operations a line expands to, in order (R58). -/
def AsmLine.expand : AsmLine → List Instr
  | .op i => [i]
  | .ti b => tickIter b
  | .hold b n => tickIters (List.replicate n b)
  | .press n => tickIters (List.replicate n false)
  | .release n => tickIters (List.replicate n true)
  | .spin b n => List.replicate n (.iter b)
  | .ticks n => List.replicate n .tick

/-- The command words of a list of lines. -/
def assemble (ls : List AsmLine) : List CommandWord := (ls.flatMap AsmLine.expand).map encode

/-- A line of text. -/
abbrev Text := List Char

/-- "A listing prints each word as three binary digits", bit 2 first (R47, R57). -/
def wordDigits (w : CommandWord) : Text :=
  [w.getLsbD 2, w.getLsbD 1, w.getLsbD 0].map fun x => if x then '1' else '0'

/-- The line without its comment: "an optional comment after `;`" (R57). -/
def dropComment (t : Text) : Text := t.takeWhile fun x => x != ';'

/-- A finished token, if it holds any character. -/
def tokenOf (acc : Text) : List Text := if acc.isEmpty then [] else [acc]

/-- The tokens of a line: blanks part tokens, and a comma is a token of its own (log 9). -/
def tokensFrom (acc : Text) : Text → List Text
  | [] => tokenOf acc
  | x :: xs =>
    if x = ' ' then tokenOf acc ++ tokensFrom [] xs
    else if x = ',' then tokenOf acc ++ ([','] :: tokensFrom [] xs)
    else tokensFrom (acc ++ [x]) xs

/-- `ITER`. -/
def wordITER : Text := ['I', 'T', 'E', 'R']
/-- `TICK`. -/
def wordTICK : Text := ['T', 'I', 'C', 'K']
/-- `RESET`. -/
def wordRESET : Text := ['R', 'E', 'S', 'E', 'T']
/-- `TI`. -/
def wordTI : Text := ['T', 'I']
/-- `HOLD`. -/
def wordHOLD : Text := ['H', 'O', 'L', 'D']
/-- `PRESS`. -/
def wordPRESS : Text := ['P', 'R', 'E', 'S', 'S']
/-- `RELEASE`. -/
def wordRELEASE : Text := ['R', 'E', 'L', 'E', 'A', 'S', 'E']
/-- `SPIN`. -/
def wordSPIN : Text := ['S', 'P', 'I', 'N']
/-- `TICKS`. -/
def wordTICKS : Text := ['T', 'I', 'C', 'K', 'S']

/-- The level an operand names: "b = `0` or `P` (pressed), or b = `1` or `R` (released)" (R57). -/
def parseLevel (t : Text) : Option Level :=
  if t = ['0'] ∨ t = ['P'] then some false else if t = ['1'] ∨ t = ['R'] then some true else none

/-- The value of a decimal digit. -/
def digitValue (x : Char) : Option Nat :=
  if 48 ≤ x.toNat ∧ x.toNat ≤ 57 then some (x.toNat - 48) else none

/-- The value of a row of decimal digits, after the digits already read. -/
def digitsFrom (acc : Nat) : Text → Option Nat
  | [] => some acc
  | x :: xs =>
    match digitValue x with
    | some d => digitsFrom (10 * acc + d) xs
    | none => none

/-- A count: a decimal integer that is at least 1 (R58). -/
def parseCount (t : Text) : Option Nat :=
  match t, digitsFrom 0 t with
  | _ :: _, some n => if 1 ≤ n then some n else none
  | _, _ => none

/-- The line that a list of tokens spells; "No other syntax exists" (R57), so anything else is refused. -/
def parseTokens : List Text → Option AsmLine
  | [m] => if m = wordTICK then some (.op .tick) else if m = wordRESET then some (.op .reset) else none
  | [m, x] =>
    if m = wordITER then (parseLevel x).map fun b => .op (.iter b)
    else if m = wordTI then (parseLevel x).map .ti
    else if m = wordPRESS then (parseCount x).map .press
    else if m = wordRELEASE then (parseCount x).map .release
    else if m = wordTICKS then (parseCount x).map .ticks
    else none
  | [m, x, comma, y] =>
    if comma = [','] then
      match parseLevel x, parseCount y with
      | some b, some n =>
        if m = wordHOLD then some (.hold b n) else if m = wordSPIN then some (.spin b n) else none
      | _, _ => none
    else none
  | _ => none

/-- Reading one line of text (R57, R58). -/
def parseLine (t : Text) : Option AsmLine := parseTokens (tokensFrom [] (dropComment t))

/-- The level as a listing writes it. -/
def levelText (b : Level) : Text := if b then ['1'] else ['0']

/-- A line as text, counts in decimal (R57, R58). -/
def AsmLine.text : AsmLine → Text
  | .op (.iter b) => wordITER ++ [' '] ++ levelText b
  | .op .tick => wordTICK
  | .op .reset => wordRESET
  | .ti b => wordTI ++ [' '] ++ levelText b
  | .hold b n => wordHOLD ++ [' '] ++ levelText b ++ [',', ' '] ++ Nat.toDigits 10 n
  | .press n => wordPRESS ++ [' '] ++ Nat.toDigits 10 n
  | .release n => wordRELEASE ++ [' '] ++ Nat.toDigits 10 n
  | .spin b n => wordSPIN ++ [' '] ++ levelText b ++ [',', ' '] ++ Nat.toDigits 10 n
  | .ticks n => wordTICKS ++ [' '] ++ Nat.toDigits 10 n

end Sys2Proof.Machine
end

