-- ==== Sys2Proof/Machine/Image.lean ====
section
/-! DEFINITION. How the block's state is named and packed: the value codes (30_encoding R53, R54), the field numbers, widths
and writers (10_state R28, R29), the output port word (R24, R55) and the 12-byte state image (R37, R56). No operation
reads or writes the image. -/

namespace Sys2Proof.Machine

/-- The 2-bit code of `BAND` (R53). -/
def Band.code : Band → BitVec 2
  | .m40 => 0b00
  | .m20 => 0b01
  | .m15 => 0b10

/-- The 2-bit code of `PREV_BAND`: the band's, or `PREV_SENTINEL` = 3 (R53). -/
def PrevBand.code : PrevBand → BitVec 2
  | .dispatched b => b.code
  | .sentinel => BitVec.ofNat 2 prevSentinel

/-- The `BAND` a byte of the image holds: 3, or any bit above the field's 2 bits, is refused (R53, R56). -/
def Band.ofByte (v : Byte) : Option Band :=
  if v = 0 then some .m40 else if v = 1 then some .m20 else if v = 2 then some .m15 else none

/-- The `PREV_BAND` a byte of the image holds: any bit above the field's 2 bits is refused (R53, R56). -/
def PrevBand.ofByte (v : Byte) : Option PrevBand :=
  if v = BitVec.ofNat 8 prevSentinel then some .sentinel else (Band.ofByte v).map .dispatched

/-- The number i = 0..3 of a pulse (R54). -/
def PulseId.index : PulseId → Nat
  | .r12Set => 0
  | .r12Reset => 1
  | .r34Set => 2
  | .r34Reset => 3

/-- The other pulse of the same relay pair: {0, 1} and {2, 3} (R54). -/
def PulseId.partner : PulseId → PulseId
  | .r12Set => .r12Reset
  | .r12Reset => .r12Set
  | .r34Set => .r34Reset
  | .r34Reset => .r34Set

/-- `IND`, the field number 10 of R28: bit 0 `OUT_20M`, bit 1 `OUT_15M`, bit 2 `CAL`. -/
def Block.ind (k : Block) : BitVec 3 :=
  BitVec.ofBool k.cal ++ BitVec.ofBool k.out15m ++ BitVec.ofBool k.out20m

/-- `PORT(s)`, the seven output lines at a step boundary (R24, R55). -/
def Block.port (k : Block) : PortWord :=
  BitVec.ofBool k.cal ++ BitVec.ofBool k.out15m ++ BitVec.ofBool k.out20m ++ BitVec.ofBool k.pulses.r34Reset.a
    ++ BitVec.ofBool k.pulses.r34Set.a ++ BitVec.ofBool k.pulses.r12Reset.a ++ BitVec.ofBool k.pulses.r12Set.a

/-- The eleven numbered fields of R28. -/
inductive Field where
  /-- 0, `TICK`. -/
  | tick
  /-- 1, `LAST_TICK`. -/
  | lastTick
  /-- 2, `DEB`. -/
  | deb
  /-- 3, `BAND`. -/
  | band
  /-- 4, `PREV_BAND`. -/
  | prevBand
  /-- 5, `PFLAGS`. -/
  | pflags
  /-- 6..9, `P0_S`..`P3_S`. -/
  | start (i : PulseId)
  /-- 10, `IND`. -/
  | ind
  deriving DecidableEq, Repr

/-- The field's number (R28). -/
def Field.number : Field → Nat
  | .tick => 0
  | .lastTick => 1
  | .deb => 2
  | .band => 3
  | .prevBand => 4
  | .pflags => 5
  | .start i => 6 + i.index
  | .ind => 10

/-- The field's width in bits (R28). -/
def Field.bits : Field → Nat
  | .tick => 8
  | .lastTick => 8
  | .deb => debWidth
  | .band => 2
  | .prevBand => 2
  | .pflags => numPulses
  | .start _ => 8
  | .ind => 3

/-- The value of a numbered field, zero-extended to 16 bits (R28). -/
def Block.field (k : Block) : Field → BitVec 16
  | .tick => k.tick.setWidth 16
  | .lastTick => k.lastTick.setWidth 16
  | .deb => k.deb
  | .band => k.band.code.setWidth 16
  | .prevBand => k.prevBand.code.setWidth 16
  | .pflags => k.pflags.setWidth 16
  | .start i => (k.pulses.get i).s.setWidth 16
  | .ind => k.ind.setWidth 16

/-- The fields an operation may write, R29's table; `gateOpen` says which row of it an ITER falls under. -/
def mayWrite (i : Instr) (gateOpen : Bool) (f : Field) : Bool :=
  match i with
  | .tick => f == .tick
  | .iter _ => if gateOpen then f != .tick else f == .pflags
  | .reset => true

/-- The 12-byte state image, byte 0 first, `DEB` low byte first (R37, R56). -/
def Block.image (k : Block) : List Byte :=
  [ k.tick, k.lastTick, k.deb.extractLsb' 0 8, k.deb.extractLsb' 8 8,
    k.band.code.setWidth 8, k.prevBand.code.setWidth 8, k.pflags.setWidth 8,
    k.pulses.r12Set.s, k.pulses.r12Reset.s, k.pulses.r34Set.s, k.pulses.r34Reset.s, k.ind.setWidth 8 ]

/-- Reading an image. One with `BAND = 3`, or with a bit set above a field's width, is refused (R56; I16); so is one that
is not 12 bytes long (DEDUCED, log 10). -/
def Block.ofImage : List Byte → Option Block
  | [t, l, lo, hi, bd, pb, fl, s0, s1, s2, s3, ind] =>
    match Band.ofByte bd, PrevBand.ofByte pb with
    | some band, some prev =>
      if fl.extractLsb' 4 4 = 0 ∧ ind.extractLsb' 3 5 = 0 then
        some { tick := t, lastTick := l, deb := hi ++ lo, band := band, prevBand := prev,
               pulses := { r12Set := ⟨fl.getLsbD 0, s0⟩, r12Reset := ⟨fl.getLsbD 1, s1⟩,
                           r34Set := ⟨fl.getLsbD 2, s2⟩, r34Reset := ⟨fl.getLsbD 3, s3⟩ },
               out15m := ind.getLsbD 1, out20m := ind.getLsbD 0, cal := ind.getLsbD 2 }
      else none
    | _, _ => none
  | _ => none

end Sys2Proof.Machine
end

