-- ==== Sys2Proof/Machine/Run.lean ====
section
/-! DEFINITION. Many operations one after another: a list of operations (20_memory R43), and a run of command words
(30_encoding R47, 70_reset R140). -/

namespace Sys2Proof.Machine

/-- The operations of a list, in order, each on the state the one before it left (20_memory R43). -/
def execAll : List Instr → State → Host.Outcome State Fault Refusal
  | [], s => .next s
  | i :: is, s =>
    match exec i s with
    | .next t => execAll is t
    | .fault r => .fault r
    | .refused r => .refused r

/-- A number of steps, ended by the first refusal. -/
def steps : Nat → State → Host.Outcome State Fault Refusal
  | 0, s => .next s
  | n + 1, s =>
    match step s with
    | .next t => steps n t
    | .fault r => .fault r
    | .refused r => .refused r

/-- The run of a finite list of command words from the reset state: one step for each word (70_reset R129, R140). -/
def run (c : Config) (ws : List CommandWord) : Host.Outcome State Fault Refusal :=
  steps ws.length ((State.powerOn c).setStream ws)

end Sys2Proof.Machine
end

