-- ==== Sys2Proof/Safety.lean ====
section
/-! DEFINITION. The terms claims about the block use: the invariant of its reachable states, pair exclusivity, the history of
a run and the one-tick cadence. Nothing here is called by the machine. -/

namespace Sys2Proof.Machine

/-- The indicator pair (`OUT_15M`, `OUT_20M`) of the mapping table (10_state R35; 42_dispatch R87 to R89). -/
def indicatorsFor : Band → Level × Level
  | .m40 => (false, false)
  | .m20 => (false, true)
  | .m15 => (true, false)

/-- The pulses the mapping table arms for a band (42_dispatch R87 to R89; 95_test_vectors V-SRC-8). -/
def armedBy : Band → PulseId → Bool
  | .m40, i => i == .r12Reset || i == .r34Reset
  | .m20, i => i == .r12Reset || i == .r34Set
  | .m15, i => i == .r12Set

/-- At most one member of each relay pair is high (42_dispatch R97). -/
def Block.pairsExclusive (k : Block) : Bool :=
  !(k.pulses.r12Set.a && k.pulses.r12Reset.a) && !(k.pulses.r34Set.a && k.pulses.r34Reset.a)

/-- No band has been dispatched since reset: every field but `TICK` is as RESET left it (10_state R34). -/
abbrev Block.untouched (c : Config) (k : Block) : Prop := k = (Block.atReset c).setTick k.tick

/-- The last dispatch was of the current band and the indicators show it (10_state R34, R35). -/
abbrev Block.shown (k : Block) : Prop :=
  k.prevBand = .dispatched k.band ∧ (k.out15m, k.out20m) = indicatorsFor k.band

/-- What every reachable state of the block meets: the mask's bits of `DEB` are set (10_state R33), and either no gated
ITER has run since reset or the current band has been dispatched and is shown (R34, R35). DEDUCED (log 18): R33 says bits
15..13, which are the mask's where `DEB_N` is 12; where it is 13 or 14 the mask leaves bit 13 clear, and R33 is read as
the mask's bits. -/
abbrev Block.Inv (c : Config) (k : Block) : Prop :=
  k.deb &&& c.debMask = c.debMask ∧ (k.untouched c ∨ k.shown)

/-- The invariant of the machine: well-formed parameters (00_scope R6), an unrefused run, and the block's invariant. -/
abbrev State.Inv (s : State) : Prop := s.cfg.wf = true ∧ s.refusalMark = false ∧ s.block.Inv s.cfg

/-- What has happened since the latest RESET. -/
structure History where
  /-- The samples of the gated ITERs, the latest first (41_debounce R76). -/
  samples : List Level
  /-- The number of band advances (41_debounce R84). -/
  advances : Nat
  deriving DecidableEq, Repr

/-- Right after RESET: no gated ITER and no advance yet. -/
def History.fresh : History := { samples := [], advances := 0 }

/-- The history after the operation `i` in the state `s`. An ITER counts where it is gated (40_step R64), an advance where
its shifted `DEB` equals `DEB_TRIGGER` (41_debounce R73). -/
def History.note (i : Instr) (s : State) (h : History) : History :=
  match i with
  | .iter b =>
    if s.block.gated then
      { samples := b :: h.samples,
        advances := if debShift s.cfg b s.block.deb = s.cfg.debTrigger then h.advances + 1 else h.advances }
    else h
  | .tick => h
  | .reset => .fresh

/-- The history after a list of operations. -/
def historyAfter : List Instr → State → History → History
  | [], _, h => h
  | i :: is, s, h =>
    match exec i s with
    | .next t => historyAfter is t (h.note i s)
    | _ => h

/-- The number of consecutive pressed samples up to the latest one: R77's counter `c`, samples given latest first. -/
def pressedRun (samples : List Level) : Nat := (samples.takeWhile fun b => !b).length

/-- Bit `j` of `DEB` after the gated samples since reset, given latest first: a sample, or a bit of the seed shifted up
(41_debounce R76). -/
def sampleOrSeed (c : Config) (samples : List Level) (j : Nat) : Bool :=
  (samples[j]?).getD (c.debSeed.getLsbD (j - samples.length))

/-- `DEB` holds the history's samples and below them the seed's bits shifted up, with the mask's bits set (41_debounce R76,
10_state R33; log 18). -/
abbrev State.HoldsSamples (h : History) (s : State) : Prop :=
  (∀ j, j ≤ s.cfg.debN → s.block.deb.getLsbD j = sampleOrSeed s.cfg h.samples j)
  ∧ (∀ j, s.cfg.debN < j → j < debWidth → s.block.deb.getLsbD j = true)

/-- Two states that differ at most in the assertion ticks of low pulses (10_state R20). -/
abbrev State.SameButLowStarts (s u : State) : Prop :=
  u = s.setBlock (s.block.setPulses u.block.pulses)
  ∧ ∀ i, (u.block.pulses.get i).a = (s.block.pulses.get i).a
      ∧ ((s.block.pulses.get i).a = true → (u.block.pulses.get i).s = (s.block.pulses.get i).s)

/-- Whether the cadence has held since the latest RESET, and whether a TICK has come since the latest ITER. -/
structure Cadence where
  /-- Every two TICKs since the latest RESET have an ITER between them. -/
  kept : Bool
  /-- A TICK has come with no ITER after it. -/
  pending : Bool
  deriving DecidableEq, Repr

/-- The cadence after one more operation (70_reset R132). -/
def Cadence.after (m : Cadence) : Instr → Cadence
  | .iter _ => { m with pending := false }
  | .tick => { kept := m.kept && !m.pending, pending := true }
  | .reset => { kept := true, pending := false }

/-- The one-tick cadence: at least one ITER between any two TICKs that follow the latest RESET (70_reset R132). -/
def keepsCadence (is : List Instr) : Bool :=
  (is.foldl Cadence.after { kept := true, pending := false }).kept

/-- The number of TICKs the block has not yet seen with an ITER, 0 or 1 while the cadence is kept. -/
def Cadence.unseen (m : Cadence) : Byte := if m.pending then 1 else 0

/-- The age of pulse `i`: ticks from its assertion to the latest gated ITER. -/
def Block.age (k : Block) (i : PulseId) : Byte := k.lastTick - (k.pulses.get i).s

/-- What holds of a high pulse while the cadence is kept: it is no older than the duration and was not expired at the latest
gated ITER; and while a press of `n` samples, 11 at most, is on, it is older than the press, or as old as the press and
armed below delta (by the first dispatch since reset). -/
abbrev Block.Young (c : Config) (k : Block) (i : PulseId) : Prop :=
  k.age i ≤ c.pulseD ∧ expired c (k.pulses.get i).s k.lastTick = false
  ∧ (lowestSetBit k.deb ≤ 11 →
      lowestSetBit k.deb + 1 ≤ (k.age i).toNat
      ∨ lowestSetBit k.deb ≤ (k.age i).toNat + 1 ∧ (k.pulses.get i).s < delta c)

/-- What the cadence gives the block: no relay pair has both members high, and either no gated ITER has run since reset and
the TICKs since then are the unseen ones, or the unseen TICKs are those since the latest gated ITER and every high
pulse is young (42_dispatch R97, 70_reset R132). -/
abbrev Block.Paced (m : Cadence) (c : Config) (k : Block) : Prop :=
  k.pairsExclusive = true
  ∧ (k = (Block.atReset c).setTick m.unseen
      ∨ k.shown ∧ k.tick = k.lastTick + m.unseen ∧ ∀ i, (k.pulses.get i).a = true → k.Young c i)

/-- The invariant behind pair exclusivity: R5's debounce parameters, a duration of at most 11, the mask's bits set, and, where
the cadence has been kept since the latest RESET, a paced block (42_dispatch R97). -/
abbrev State.CadenceInv (m : Cadence) (s : State) : Prop :=
  s.cfg = Config.debDefaults s.cfg.pulseD ∧ s.cfg.pulseD ≤ 11 ∧ s.block.deb &&& s.cfg.debMask = s.cfg.debMask
  ∧ (m.kept = true → s.block.Paced m s.cfg)

/-- The number of ticks a pulse armed at `start` stays high under the cadence (43_pulse R101). -/
def pulseWidth (c : Config) (start : Byte) : Nat :=
  if start < delta c then c.pulseD.toNat else c.pulseD.toNat + 1

/-- A run was accepted: no refusal in it (60_exceptions R117, 70_reset R140). -/
def accepted : Host.Outcome State Fault Refusal → Bool
  | .next _ => true
  | .fault _ => false
  | .refused _ => false

end Sys2Proof.Machine
end

