-- ==== Sys2Proof/Certificates/Slice0/Obligations.lean ====
section
/-! DEFINITION. The statements for the provers. Each docstring names the rules of spec/ it rests on. A statement whose rule
the spec marks [derived], or that rests on a choice of the model, is entered as 'derived' in OBLIGATIONS.json. -/

open Sys2Proof Sys2Proof.Machine

/-! ### Encoding -/

/-- R48 and R59: every word decodes by its `OP` field, and the reserved words are exactly those with `OP` = 0b11. -/
def Obligations.DecodeFollowsOpField : Prop :=
  (∀ w : CommandWord,
    (w.extractLsb' 1 2 = 0b00 → decode w = .operation (.iter (w.getLsbD 0)))
    ∧ (w.extractLsb' 1 2 = 0b01 → decode w = .operation .tick)
    ∧ (w.extractLsb' 1 2 = 0b10 → decode w = .operation .reset)
    ∧ (w.extractLsb' 1 2 = 0b11 ↔ decode w = .reserved))
  ∧ decode 0b000 = .operation (.iter false) ∧ decode 0b001 = .operation (.iter true)
  ∧ decode 0b010 = .operation .tick ∧ decode 0b011 = .operation .tick
  ∧ decode 0b100 = .operation .reset ∧ decode 0b101 = .operation .reset
  ∧ decode 0b110 = .reserved ∧ decode 0b111 = .reserved

/-- Derived from R48 to R50, R59: decoding an encoded instruction gives it back; encoding a decoded word gives the word
back where it is an ITER, and the word with its ignored bit 0 where it is not. -/
def Obligations.DecodeAndEncodeAgree : Prop :=
  (∀ i : Instr, i.wellFormed = true ∧ wordWellFormed (encode i) = true ∧ decode (encode i) = .operation i)
  ∧ (∀ (w : CommandWord) (b : Level), decode w = .operation (.iter b) → encode (.iter b) = w)
  ∧ (∀ w : CommandWord, decode w = .operation .tick → encode .tick = (w &&& 0b110))
  ∧ (∀ w : CommandWord, decode w = .operation .reset → encode .reset = (w &&& 0b110))

/-- R50: both values of `B` in a TICK or RESET word select the same operation with the same effect, and the encoder
writes 0. -/
def Obligations.IgnoredBitSelectsTheSameOperation : Prop :=
  decode 0b010 = .operation .tick ∧ decode 0b011 = .operation .tick
  ∧ decode 0b100 = .operation .reset ∧ decode 0b101 = .operation .reset
  ∧ (∀ (s : State) (ws : List CommandWord),
      step (s.setStream (0b010 :: ws)) = step (s.setStream (0b011 :: ws))
      ∧ step (s.setStream (0b100 :: ws)) = step (s.setStream (0b101 :: ws)))
  ∧ encode .tick = 0b010 ∧ encode .reset = 0b100

/-- Derived from R60: the opcode map's rows do not overlap, and a word decodes to an operation exactly where one row holds
it, which is that operation's row. -/
def Obligations.OpcodeMapRowsDoNotOverlap : Prop :=
  ∀ w : CommandWord,
    (opcodeMap.filter fun r => r.holds w).length = (if decode w = .reserved then 0 else 1)
    ∧ ∀ i : Instr, decode w = .operation i → i.row ∈ opcodeMap ∧ i.row.holds w = true

/-- R53: the band codes; `PREV_BAND` has the same codes and the sentinel 0b11, which is no code of `BAND`. -/
def Obligations.BandAndSentinelCodes : Prop :=
  Band.code .m40 = 0b00 ∧ Band.code .m20 = 0b01 ∧ Band.code .m15 = 0b10
  ∧ (∀ b : Band, PrevBand.code (.dispatched b) = b.code)
  ∧ PrevBand.code .sentinel = 0b11
  ∧ (∀ b : Band, b.code ≠ 0b11)
  ∧ Band.ofByte 3 = none

/-- R55: the bits of the output port word. -/
def Obligations.PortWordPacksTheLines : Prop :=
  ∀ k : Block,
    k.port.getLsbD 0 = k.pulses.r12Set.a ∧ k.port.getLsbD 1 = k.pulses.r12Reset.a
    ∧ k.port.getLsbD 2 = k.pulses.r34Set.a ∧ k.port.getLsbD 3 = k.pulses.r34Reset.a
    ∧ k.port.getLsbD 4 = k.out20m ∧ k.port.getLsbD 5 = k.out15m ∧ k.port.getLsbD 6 = k.cal

/-- R56: the layout of the 12-byte image, and which 12-byte images are refused. -/
def Obligations.StateImageLayoutAndRefusal : Prop :=
  (∀ k : Block, k.image =
    [ k.tick, k.lastTick, k.deb.setWidth 8, (k.deb >>> 8).setWidth 8, k.band.code.setWidth 8,
      k.prevBand.code.setWidth 8, k.pflags.setWidth 8, k.pulses.r12Set.s, k.pulses.r12Reset.s, k.pulses.r34Set.s,
      k.pulses.r34Reset.s, k.ind.setWidth 8 ])
  ∧ (∀ (k : Block) (i : PulseId), k.pflags.getLsbD i.index = (k.pulses.get i).a)
  ∧ (∀ k : Block, k.ind.getLsbD 0 = k.out20m ∧ k.ind.getLsbD 1 = k.out15m ∧ k.ind.getLsbD 2 = k.cal)
  ∧ (∀ b0 b1 b2 b3 b4 b5 b6 b7 b8 b9 b10 b11 : Byte,
      Block.ofImage [b0, b1, b2, b3, b4, b5, b6, b7, b8, b9, b10, b11] = none
      ↔ (b4 = 3 ∨ 2 ^ 2 ≤ b4.toNat ∨ 2 ^ 2 ≤ b5.toNat ∨ 2 ^ 4 ≤ b6.toNat ∨ 2 ^ 3 ≤ b11.toNat))

/-- Derived from R56: reading the image of a state gives the state back, and an image that is read is that state's own. -/
def Obligations.StateImageRoundTrip : Prop :=
  (∀ k : Block, Block.ofImage k.image = some k)
  ∧ (∀ (bytes : List Byte) (k : Block), Block.ofImage bytes = some k → k.image = bytes)

/-- Derived from R28: the eleven fields are numbered 0 to 10, each value fits its field's width, and `BAND` is never 3. -/
def Obligations.NumberedFieldsFitTheirWidths : Prop :=
  (∀ f g : Field, f.number = g.number → f = g) ∧ (∀ f : Field, f.number ≤ 10)
  ∧ (∀ (k : Block) (f : Field), (k.field f).toNat < 2 ^ f.bits)
  ∧ (∀ k : Block, k.field .band ≠ 3)

/-! ### Steps and runs -/

/-- Derived from R47, R52: a step takes the next word of the stream and is the decoded operation on the state with that
word taken. -/
def Obligations.StepRunsTheDecodedOperation : Prop :=
  ∀ (s : State) (w : CommandWord) (ws : List CommandWord) (i : Instr),
    s.refusalMark = false → s.cfg.wf = true → s.stream = w :: ws → decode w = .operation i →
      step s = exec i (s.setStream ws)

/-- Derived from R51, R117: a reserved word is refused, not trapped: no field of the block changes and the mark is set; no
operation, RESET included, clears the mark. The form of the refusal, which carries the marked state, and that a step of a
marked run is a refusal are the model's (log 4, DEDUCED). -/
def Obligations.ReservedWordRefusesTheRun : Prop :=
  (∀ (s : State) (w : CommandWord) (ws : List CommandWord),
    s.refusalMark = false → s.cfg.wf = true → s.stream = w :: ws → (w = 0b110 ∨ w = 0b111) →
      ∃ t, step s = .refused (.reservedWord w t) ∧ t.block = s.block ∧ t.cfg = s.cfg ∧ t.refusalMark = true)
  ∧ (∀ s : State, s.refusalMark = true → step s = .refused .runRefused)
  ∧ (∀ (i : Instr) (s : State), ∃ t, exec i s = .next t ∧ t.refusalMark = s.refusalMark)

/-- Derived from R5, R6: R6's four conditions on the debounce parameters and R5's range of the seed, that the defaults meet them
with `DEB_N` = 12, and that a configuration failing them is refused. That each step refuses it, whatever the stream, is the
model's (log 5, DEDUCED), and that R5's range is asked for beside R6's conditions (log 16, DEDUCED). -/
def Obligations.IllFormedConfigurationIsRefused : Prop :=
  (∀ c : Config, c.wf = true ↔
    (1 ≤ c.debN ∧ c.debN ≤ 14
      ∧ (∀ i, i < 16 → c.debMask.getLsbD i = decide (c.debN < i))
      ∧ c.debTrigger = c.debMask ||| ((1 : DebWord) <<< c.debN)
      ∧ (∀ i, c.debN < i → i < 16 → c.debSeed.getLsbD i = true)
      ∧ (∀ i, 13 ≤ i → i < 16 → c.debSeed.getLsbD i = true)))
  ∧ (∀ d : Byte, (Config.debDefaults d).wf = true ∧ (Config.debDefaults d).debN = 12)
  ∧ (∀ s : State, s.refusalMark = false → s.cfg.wf = false → step s = .refused .configIllFormed)

/-- The model's choice (log 3), from R140: when the stream has ended, a step leaves the state as it is. -/
def Obligations.EndedStreamLeavesTheState : Prop :=
  ∀ s : State, s.refusalMark = false → s.cfg.wf = true → s.stream = [] → step s = .next s

/-- Derived from R43, R47, R140: a run of words that all spell operations is those operations in order. -/
def Obligations.RunIsTheListOfItsOperations : Prop :=
  ∀ (c : Config) (ws : List CommandWord) (is : List Instr),
    c.wf = true → decodeAll ws = some is → run c ws = execAll is (State.powerOn c)

/-- Derived from R117, R140: a run that meets a reserved word is refused, with the block as the operations before that word
left it and the mark set; a run that meets none is accepted. The form of the refusal is the model's (log 4, DEDUCED). -/
def Obligations.RunIsRefusedExactlyAtAReservedWord : Prop :=
  ∀ (c : Config) (ws : List CommandWord), c.wf = true →
    (accepted (run c ws) = (decodeAll ws).isSome)
    ∧ (decodeAll ws = none →
        ∃ (before after : List CommandWord) (w : CommandWord) (is : List Instr) (t u : State),
          ws = before ++ w :: after ∧ decodeAll before = some is ∧ decode w = .reserved
          ∧ execAll is (State.powerOn c) = .next u
          ∧ run c ws = .refused (.reservedWord w t) ∧ t.block = u.block ∧ t.refusalMark = true)

/-! ### TICK -/

/-- R61: TICK adds one to the 8-bit counter, 255 wraps to 0, and every other field is unchanged. -/
def Obligations.TickIncrementsTheCounter : Prop :=
  decode 0b010 = .operation .tick ∧ decode 0b011 = .operation .tick
  ∧ (∀ s : State, exec .tick s = .next { s with block := { s.block with tick := s.block.tick + 1 } })
  ∧ (∀ s : State, s.block.tick = 255 → exec .tick s = .next { s with block := { s.block with tick := 0 } })

/-- Derived from R70: k TICKs add k modulo 256 and nothing else, so k and k + 256 TICKs give the same state. -/
def Obligations.TicksAddModulo256 : Prop :=
  ∀ (k : Nat) (s : State),
    execAll (List.replicate k .tick) s
      = .next { s with block := { s.block with tick := BitVec.ofNat 8 ((s.block.tick.toNat + k) % 256) } }
    ∧ execAll (List.replicate (k + 256) .tick) s = execAll (List.replicate k .tick) s

/-! ### ITER -/

/-- R62: what an ITER leaves in every field. Where the gate is open, in closed form: the snapshot, the shifted register, the
band the trigger test gives, the toggled line, the dispatch of a changed band, and the expiry test of every pulse as the
dispatch left it. Where it is closed, the expiry test alone. R62's words and its example stand with it. -/
def Obligations.IterResultFieldByField : Prop :=
  decode 0b000 = .operation (.iter false) ∧ decode 0b001 = .operation (.iter true)
  ∧ (∀ (b : Level) (s : State), s.block.tick ≠ s.block.lastTick →
      ∃ t, exec (.iter b) s = .next t
        ∧ t.cfg = s.cfg ∧ t.stream = s.stream ∧ t.refusalMark = s.refusalMark
        ∧ t.block.tick = s.block.tick ∧ t.block.lastTick = s.block.tick
        ∧ t.block.deb = ((s.block.deb <<< 1) ||| sample b ||| s.cfg.debMask)
        ∧ t.block.band = (if t.block.deb = s.cfg.debTrigger then s.block.band.next else s.block.band)
        ∧ t.block.cal = (!s.block.cal)
        ∧ t.block.prevBand = .dispatched t.block.band
        ∧ (s.block.prevBand = .dispatched t.block.band →
            t.block.out15m = s.block.out15m ∧ t.block.out20m = s.block.out20m
            ∧ ∀ i, t.block.pulses.get i = (s.block.pulses.get i).expire s.cfg s.block.tick)
        ∧ (s.block.prevBand ≠ .dispatched t.block.band →
            (t.block.out15m, t.block.out20m) = indicatorsFor t.block.band
            ∧ ∀ i, t.block.pulses.get i = Pulse.expire s.cfg s.block.tick
                (if armedBy t.block.band i then { a := true, s := s.block.tick } else s.block.pulses.get i)))
  ∧ (∀ (b : Level) (s : State), s.block.tick = s.block.lastTick →
      exec (.iter b) s
        = .next { s with block := { s.block with pulses := s.block.pulses.map (Pulse.expire s.cfg s.block.tick) } })
  ∧ (∃ t, exec (.iter true) State.reset = .next t
      ∧ t.block = { tick := 0, lastTick := 0, deb := 0xFFFF, band := .m40, prevBand := .dispatched .m40,
                    pulses := { r12Set := ⟨false, 0⟩, r12Reset := ⟨true, 0⟩, r34Set := ⟨false, 0⟩,
                                r34Reset := ⟨true, 0⟩ },
                    out15m := false, out20m := false, cal := true }
      ∧ t.block.port = 0x4A)

/-- R66: an ungated ITER runs only the expiry engine and ignores its sample: its next state is the same for both samples and
differs from the state before at most in flags that the expiry test clears. -/
def Obligations.UngatedIterOnlyExpires : Prop :=
  ∀ (b : Level) (s : State), s.block.tick = s.block.lastTick →
    ∃ t, exec (.iter b) s = .next t ∧ exec (.iter (!b)) s = .next t
      ∧ t = { s with block := { s.block with pulses := t.block.pulses } }
      ∧ ∀ i, (t.block.pulses.get i).s = (s.block.pulses.get i).s
          ∧ (t.block.pulses.get i).a
              = ((s.block.pulses.get i).a && !expired s.cfg (s.block.pulses.get i).s s.block.tick)

/-- Derived from R40, R62, R69: ITERs with no TICK between them have the effect of the first one. What R40 says of two such ITERs
holds of what each does: a gated ITER changes the state and closes the gate, and the one after it, whatever its sample, is
ungated and changes nothing. R40's words can be read of the end states too; that R62 and R69 are followed is log 17. -/
def Obligations.ItersWithoutATickAddNothing : Prop :=
  (∀ (b : Level) (bs : List Level) (s : State), execAll (.iter b :: bs.map .iter) s = exec (.iter b) s)
  ∧ (∀ (b later : Level) (s : State), s.block.gated = true →
      ∃ t, exec (.iter b) s = .next t ∧ t ≠ s ∧ t.block.gated = false ∧ exec (.iter later) t = .next t)

/-- Derived from R68: after a gated ITER and k TICKs, the next ITER is gated exactly where k is no multiple of 256. -/
def Obligations.NextIterIsGatedIffTicksChanged : Prop :=
  ∀ (b : Level) (k : Nat) (s : State), s.block.gated = true →
    ∃ t, execAll (.iter b :: List.replicate k .tick) s = .next t ∧ (t.block.gated = true ↔ k % 256 ≠ 0)

/-- R29: an operation writes only the fields its row lists; an ITER with the gate closed clears flags and sets none; ITER
never writes `TICK`. The parameters, the stream and the mark are no field of the block and stay. -/
def Obligations.OperationsWriteOnlyTheirFields : Prop :=
  ∀ (i : Instr) (s : State), ∃ t, exec i s = .next t
    ∧ (∀ f, mayWrite i s.block.gated f = false → t.block.field f = s.block.field f)
    ∧ (∀ b p, i = .iter b → s.block.gated = false →
        (t.block.pulses.get p).a = true → (s.block.pulses.get p).a = true)
    ∧ (∀ b, i = .iter b → t.block.tick = s.block.tick)
    ∧ t.cfg = s.cfg ∧ t.stream = s.stream ∧ t.refusalMark = s.refusalMark

/-- Derived from R24, R27: a flag goes from 0 to 1 only where a gated ITER dispatches a band whose row arms that pulse, and from 1 to 0 only by
the expiry test of an ITER or by RESET, which leaves every flag 0. The flag is the level of its output line. -/
def Obligations.FlagsChangeOnlyByArmExpireAndReset : Prop :=
  ∀ (i : Instr) (s : State) (p : PulseId), ∃ t, exec i s = .next t
    ∧ ((s.block.pulses.get p).a = false → (t.block.pulses.get p).a = true →
        (∃ b, i = .iter b) ∧ s.block.gated = true ∧ s.block.prevBand ≠ .dispatched t.block.band
        ∧ armedBy t.block.band p = true)
    ∧ ((s.block.pulses.get p).a = true → (t.block.pulses.get p).a = false →
        i = .reset ∨ ((∃ b, i = .iter b) ∧ expired s.cfg (t.block.pulses.get p).s s.block.tick = true))
    ∧ (i = .reset → (t.block.pulses.get p).a = false)
    ∧ t.block.port.getLsbD p.index = (t.block.pulses.get p).a

/-! ### Debounce filter, band state machine, calibration line -/

/-- R71: DEB_SHIFT moves every bit up by one, takes the sample in bit 0, ORs the mask in, and writes only `DEB`. -/
def Obligations.DebounceShiftBitByBit : Prop :=
  (∀ (c : Config) (b : Level) (k : Block) (i : Nat), i < 16 →
    (k.debShift c b).deb.getLsbD i
      = ((if i = 0 then b else k.deb.getLsbD (i - 1)) || c.debMask.getLsbD i))
  ∧ (∀ (c : Config) (b : Level) (k : Block), k.debShift c b = { k with deb := (k.debShift c b).deb })
  ∧ debShift Config.defaults false 0xFFFF = 0xFFFE ∧ debShift Config.defaults false 0xF001 = 0xE002

/-- R73, R74: the trigger test is an exact equality on the shifted register; where it holds the band advances, 2 going to 0,
and otherwise it stays. BAND_ADVANCE writes only `BAND`. -/
def Obligations.BandAdvancesExactlyOnTheTrigger : Prop :=
  (∀ (b : Level) (s : State), s.block.gated = true →
    ∃ t, exec (.iter b) s = .next t
      ∧ t.block.band = (if t.block.deb = s.cfg.debTrigger then s.block.band.next else s.block.band))
  ∧ Band.next .m40 = .m20 ∧ Band.next .m20 = .m15 ∧ Band.next .m15 = .m40
  ∧ (∀ k : Block, k.bandAdvance = { k with band := k.band.next })

/-- R75: every gated ITER inverts `CAL`, an ungated one leaves it. -/
def Obligations.CalibrationTogglesOncePerGatedIter : Prop :=
  ∀ (b : Level) (s : State), ∃ t, exec (.iter b) s = .next t
    ∧ t.block.cal = (if s.block.gated then !s.block.cal else s.block.cal)

/-- Derived from R33, R76 (at any `DEB_N`, log 18): after any list of operations from reset, the mask's bits of `DEB` are set and the others hold the
samples of the gated ITERs since the latest RESET, and the seed's bits below them. -/
def Obligations.DebHoldsTheGatedSamples : Prop :=
  ∀ (c : Config) (is : List Instr), c.wf = true →
    ∃ t, execAll is (State.powerOn c) = .next t
      ∧ (∀ j, j ≤ c.debN →
          t.block.deb.getLsbD j = sampleOrSeed c (historyAfter is (State.powerOn c) .fresh).samples j)
      ∧ (∀ j, c.debN < j → j < 16 → t.block.deb.getLsbD j = true)

/-- Derived from R33, R64, R71, R76 (at any `DEB_N`, log 18): from every state whose `DEB` holds the samples of a history, reached or not, an operation gives
one whose `DEB` holds the samples of the history with that operation noted. -/
def Obligations.EveryOperationKeepsTheSampleHistory : Prop :=
  ∀ (i : Instr) (h : History) (s : State), s.cfg.wf = true → s.HoldsSamples h →
    ∃ t, exec i s = .next t ∧ t.HoldsSamples (h.note i s)

/-- Derived from R77, R83: with the default debounce parameters, `DEB` equals the trigger pattern exactly where the counter of
consecutive pressed samples is 12: the shift register and the counter form agree after every list of operations. -/
def Obligations.TriggerIsTwelvePressedSamples : Prop :=
  ∀ (d : Byte) (is : List Instr),
    ∃ t, execAll is (State.powerOn (Config.debDefaults d)) = .next t
      ∧ (t.block.deb = 0xF000
          ↔ pressedRun (historyAfter is (State.powerOn (Config.debDefaults d)) .fresh).samples = 12)

/-- Derived from R71, R73, R78: a button held from reset, one sample a tick, advances the band once, where the held samples have
brought the seed's lowest set bit up to bit `DEB_N`, and never again; with that bit at `DEB_N` or above it never does. R78 says
that `DEB_SEED[DEB_N]` = 0 is enough for that; that R71 and R73 are followed is log 19. -/
def Obligations.HeldFromResetAdvancesBySeed : Prop :=
  ∀ (c : Config) (k : Nat), c.wf = true →
    (historyAfter (tickIters (List.replicate k false)) (State.powerOn c) .fresh).advances
      = if lowestSetBit c.debSeed < c.debN ∧ c.debN ≤ k + lowestSetBit c.debSeed then 1 else 0

/-- Derived from R84, R85: the band counts the advances modulo 3 and the calibration line the gated ITERs modulo 2. -/
def Obligations.BandAndCalCountModulo : Prop :=
  ∀ (c : Config) (is : List Instr),
    ∃ t, execAll is (State.powerOn c) = .next t
      ∧ t.block.band.code.toNat = (historyAfter is (State.powerOn c) .fresh).advances % 3
      ∧ t.block.cal = decide ((historyAfter is (State.powerOn c) .fresh).samples.length % 2 = 1)

/-- Derived from R80: after a released sample, a press of m samples, one a tick, advances the band once if m is at least 12
and not at all if it is less. -/
def Obligations.OnePressAdvancesOnce : Prop :=
  ∀ (d : Byte) (s : State) (m : Nat), s.cfg = Config.debDefaults d →
    s.block.tick = s.block.lastTick → s.block.deb.getLsbD 0 = true →
      ∃ t, execAll (tickIters (List.replicate m false)) s = .next t
        ∧ t.block.band = (if 12 ≤ m then s.block.band.next else s.block.band)

/-- Derived from R81: after an advance, and whatever operations but RESET follow, the next advance is at the 13th gated ITER at
the earliest; a released sample and 12 pressed ones reach it. -/
def Obligations.AdvancesAreThirteenGatedItersApart : Prop :=
  (∀ (d : Byte) (s : State) (is : List Instr), s.cfg = Config.debDefaults d → s.block.deb = 0xF000 →
    .reset ∉ is → 1 ≤ (historyAfter is s .fresh).advances → 13 ≤ (historyAfter is s .fresh).samples.length)
  ∧ (∀ (d : Byte) (s : State), s.cfg = Config.debDefaults d → s.block.deb = 0xF000 →
      s.block.tick = s.block.lastTick →
      historyAfter (tickIters (true :: List.replicate 12 false)) s .fresh
        = { samples := List.replicate 12 false ++ [true], advances := 1 })

/-! ### Dispatcher -/

/-- R86 to R91: with `BAND` = `PREV_BAND` the dispatcher writes nothing; otherwise it runs the one row of the band and then
writes `PREV_BAND`. -/
def Obligations.DispatchFollowsTheMappingTable : Prop :=
  ∀ (now : Byte) (k : Block),
    (k.prevBand = .dispatched k.band → k.dispatch now = k)
    ∧ (k.band = .m40 → k.prevBand ≠ .dispatched .m40 →
        k.dispatch now = { k with
          out15m := false, out20m := false, prevBand := .dispatched .m40,
          pulses := { k.pulses with r12Reset := ⟨true, now⟩, r34Reset := ⟨true, now⟩ } })
    ∧ (k.band = .m20 → k.prevBand ≠ .dispatched .m20 →
        k.dispatch now = { k with
          out15m := false, out20m := true, prevBand := .dispatched .m20,
          pulses := { k.pulses with r12Reset := ⟨true, now⟩, r34Set := ⟨true, now⟩ } })
    ∧ (k.band = .m15 → k.prevBand ≠ .dispatched .m15 →
        k.dispatch now = { k with
          out15m := true, out20m := false, prevBand := .dispatched .m15,
          pulses := { k.pulses with r12Set := ⟨true, now⟩ } })

/-- R92: the dispatcher never clears a flag, never writes a pulse its row does not arm, and so leaves the other member of a pair
it arms one member of. -/
def Obligations.DispatcherOnlyAsserts : Prop :=
  ∀ (now : Byte) (k : Block) (i : PulseId),
    ((k.pulses.get i).a = true → ((k.dispatch now).pulses.get i).a = true)
    ∧ (armedBy k.band i = false → (k.dispatch now).pulses.get i = k.pulses.get i)
    ∧ (armedBy k.band i = true → (k.dispatch now).pulses.get i.partner = k.pulses.get i.partner)

/-- Derived from R96: a second dispatch, at any tick, changes nothing. -/
def Obligations.DispatchIsIdempotent : Prop :=
  ∀ (now later : Byte) (k : Block), (k.dispatch now).dispatch later = k.dispatch now

/-- Derived from R34, R35: before the first gated ITER since reset `PREV_BAND` is the sentinel; after it, `PREV_BAND` is the
band, the indicators are the table's for it, and never both high. -/
def Obligations.BandIsShownOnceGated : Prop :=
  ∀ (c : Config) (is : List Instr),
    ∃ t, execAll is (State.powerOn c) = .next t
      ∧ ((historyAfter is (State.powerOn c) .fresh).samples = [] →
          t.block.prevBand = .sentinel ∧ t.block.band = .m40)
      ∧ ((historyAfter is (State.powerOn c) .fresh).samples ≠ [] →
          t.block.prevBand = .dispatched t.block.band
          ∧ (t.block.out15m, t.block.out20m) = indicatorsFor t.block.band)
      ∧ (t.block.out15m && t.block.out20m) = false

/-- Derived from R94: after k TICKs from reset the first ITER is ungated, and changes nothing, exactly where k mod 256 = 255;
otherwise, with the default debounce parameters, it dispatches band 0, and with a pulse duration of at least 1 leaves R12-reset
and R34-reset high. Under any parameters the first gated ITER dispatches the band its trigger test leaves, band 1 where the
first sample triggers; that R71 and R73 are followed there, and R94 read of the default parameters, is log 20. -/
def Obligations.FirstGatedIterDispatchesBandZero : Prop :=
  (∀ (d : Byte) (k : Nat) (b : Level),
    ∃ t u, execAll (List.replicate k .tick) (State.powerOn (Config.debDefaults d)) = .next t
      ∧ exec (.iter b) t = .next u
      ∧ (k % 256 = 255 → u = t)
      ∧ (k % 256 ≠ 255 →
          u.block.band = .m40 ∧ u.block.prevBand = .dispatched .m40
          ∧ u.block.out15m = false ∧ u.block.out20m = false
          ∧ ∀ i, ((u.block.pulses.get i).a = true → armedBy .m40 i = true)
              ∧ (armedBy .m40 i = true →
                  (u.block.pulses.get i).s = BitVec.ofNat 8 k ∧ (1 ≤ d → (u.block.pulses.get i).a = true))))
  ∧ (∀ (c : Config) (k : Nat) (b : Level), k % 256 ≠ 255 →
      ∃ t u, execAll (List.replicate k .tick) (State.powerOn c) = .next t ∧ exec (.iter b) t = .next u
        ∧ u.block.band = (if debShift c b c.debSeed = c.debTrigger then .m20 else .m40)
        ∧ u.block.prevBand = .dispatched u.block.band
        ∧ (u.block.out15m, u.block.out20m) = indicatorsFor u.block.band
        ∧ ∀ i, ((u.block.pulses.get i).a = true → armedBy u.block.band i = true)
            ∧ (armedBy u.block.band i = true →
                (u.block.pulses.get i).s = BitVec.ofNat 8 k ∧ (1 ≤ c.pulseD → (u.block.pulses.get i).a = true)))

/-- Derived from R97 (90_conflicts C4, C7): with the default debounce parameters, a pulse duration of at most 11 and the one-tick
cadence, at most one member of each relay pair is high at every step boundary. -/
def Obligations.PairsAreExclusiveUnderTheCadence : Prop :=
  ∀ (d : Byte) (is : List Instr), d ≤ 11 → keepsCadence is = true →
    ∃ t, execAll is (State.powerOn (Config.debDefaults d)) = .next t ∧ t.block.pairsExclusive = true

/-- Derived from R97, R132 (90_conflicts C4, C7): from every state that meets the cadence invariant, reached or not, an operation gives
one that meets it under the cadence after that operation; a state that meets it has its pairs exclusive where the cadence
is kept. -/
def Obligations.EveryOperationKeepsTheCadenceInvariant : Prop :=
  (∀ (i : Instr) (m : Cadence) (s : State), s.CadenceInv m → ∃ t, exec i s = .next t ∧ t.CadenceInv (m.after i))
  ∧ (∀ (m : Cadence) (s : State), s.CadenceInv m → m.kept = true → s.block.pairsExclusive = true)

/-- Derived from R7, R97: for every pulse duration of 12 or more the cadence does not keep the pairs exclusive. -/
def Obligations.TwelveOrMoreTicksBreakPairExclusivity : Prop :=
  ∀ d : Byte, 12 ≤ d →
    ∃ is t, keepsCadence is = true ∧ execAll is (State.powerOn (Config.debDefaults d)) = .next t
      ∧ t.block.pairsExclusive = false

/-! ### Pulse expiry engine -/

/-- R98: the three branches of the elapsed test, over the integers modulo 256, and the source's two examples. -/
def Obligations.ElapsedTestByItsThreeBranches : Prop :=
  (∀ (c : Config) (start now : Byte),
    (255 - c.pulseD.toNat ≤ start.toNat → 255 - c.pulseD.toNat ≤ now.toNat → expired c start now = false)
    ∧ (255 - c.pulseD.toNat ≤ start.toNat → now.toNat < 255 - c.pulseD.toNat →
        (expired c start now = true ↔ c.pulseD.toNat ≤ (now.toNat + 256 - start.toNat + 255) % 256))
    ∧ (start.toNat < 255 - c.pulseD.toNat →
        (expired c start now = true ↔ c.pulseD.toNat ≤ (now.toNat + 256 - start.toNat) % 256)))
  ∧ expired Config.defaults 254 2 = true ∧ expired Config.defaults 254 1 = false

/-- Derived from R100: the closed form of the elapsed test for a pulse armed near the wrap: it has expired exactly where
`now` lies in `[start - delta, delta)`. -/
def Obligations.ElapsedTestClosedForm : Prop :=
  ∀ (c : Config) (start now : Byte), 255 - c.pulseD.toNat ≤ start.toNat →
    (expired c start now = true
      ↔ now.toNat < 255 - c.pulseD.toNat ∧ start.toNat - (255 - c.pulseD.toNat) ≤ now.toNat)

/-- Derived from R100: a pulse never expires, whatever ticks are seen, exactly where its start is at least twice delta; so with a
pulse duration of at most 127 every start has an expiry point. -/
def Obligations.PulsesThatNeverExpire : Prop :=
  (∀ (c : Config) (start : Byte),
    (∀ now, expired c start now = false) ↔ 2 * (255 - c.pulseD.toNat) ≤ start.toNat)
  ∧ (∀ (c : Config) (start : Byte), c.pulseD ≤ 127 → ∃ now, expired c start now = true)

/-- R99: EXPIRE_ALL clears exactly the flags whose test holds, sets none, and writes nothing else. -/
def Obligations.ExpiryEngineClearsExpiredPulses : Prop :=
  (∀ (c : Config) (now : Byte) (k : Block) (i : PulseId),
    ((k.expireAll c now).pulses.get i).s = (k.pulses.get i).s
    ∧ ((k.expireAll c now).pulses.get i).a = ((k.pulses.get i).a && !expired c (k.pulses.get i).s now)
    ∧ ((k.pulses.get i).a = false → ((k.expireAll c now).pulses.get i).a = false)
    ∧ k.expireAll c now = { k with pulses := (k.expireAll c now).pulses })
  ∧ Pulse.expire Config.defaults 13 ⟨true, 10⟩ = ⟨false, 10⟩
  ∧ Pulse.expire Config.defaults 12 ⟨true, 10⟩ = ⟨true, 10⟩

/-- Derived from R101, R134: a pulse just armed and seen at every tick is high for `PULSE_D` ticks if armed below delta and
`PULSE_D` + 1 otherwise, and for ever if armed at twice delta or later. Within 255 ticks an unchanged assertion tick says that the
pulse was not armed again. -/
def Obligations.PulseWidthUnderTheCadence : Prop :=
  ∀ (s : State) (i : PulseId) (bs : List Level), 1 ≤ s.cfg.pulseD → s.block.tick = s.block.lastTick →
    s.block.pulses.get i = { a := true, s := s.block.tick } → bs.length < 256 →
      ∃ t, execAll (tickIters bs) s = .next t
        ∧ ((t.block.pulses.get i).s = s.block.tick →
            ((t.block.pulses.get i).a = true
              ↔ bs.length < pulseWidth s.cfg s.block.tick
                ∨ 2 * (255 - s.cfg.pulseD.toNat) ≤ s.block.tick.toNat))

/-- Derived from R104: a pulse tested in the ITER that arms it has not expired where the duration is at least 1; where it is 0
it has, unless it was armed at tick 255. -/
def Obligations.PulseArmedNowIsTestedAtZero : Prop :=
  (∀ (c : Config) (now : Byte), 1 ≤ c.pulseD → expired c now now = false)
  ∧ (∀ (c : Config) (now : Byte), c.pulseD = 0 → (expired c now now = true ↔ now ≠ 255))

/-- Derived from R102 (90_conflicts C2): the test is not "true modular elapsed ticks at least the duration": with the defaults, two
pulses 3 ticks old have not expired. -/
def Obligations.ElapsedTestIsNotModularElapsed : Prop :=
  (1 : Byte) - 254 = 3 ∧ expired Config.defaults 254 1 = false
  ∧ (255 : Byte) - 252 = 3 ∧ expired Config.defaults 252 255 = false
  ∧ Config.defaults.pulseD = 3

/-- R30: each entry of the pulse file is independent. Two states that differ only in other pulses have, after any operation, the
same entry i and the same other fields. -/
def Obligations.PulseEntriesAreIndependent : Prop :=
  ∀ (ins : Instr) (s : State) (ps : Pulses) (i : PulseId), ps.get i = s.block.pulses.get i →
    ∃ t u, exec ins s = .next t ∧ exec ins (s.setBlock (s.block.setPulses ps)) = .next u
      ∧ u.block.pulses.get i = t.block.pulses.get i
      ∧ u = t.setBlock (t.block.setPulses u.block.pulses)

/-- Derived from R20: the assertion tick of a pulse that is low has no effect on any output. Two states that differ only there
show the same port word after every list of operations. -/
def Obligations.StartTickOfALowPulseIsInvisible : Prop :=
  ∀ (is : List Instr) (s : State) (ps : Pulses),
    (∀ i, (ps.get i).a = (s.block.pulses.get i).a
      ∧ ((ps.get i).a = true → (ps.get i).s = (s.block.pulses.get i).s)) →
    ∃ t u, execAll is s = .next t ∧ execAll is (s.setBlock (s.block.setPulses ps)) = .next u
      ∧ u.block.port = t.block.port ∧ u.block.band = t.block.band

/-- Derived from R20, R99: a step keeps two states alike but for the assertion ticks of low pulses, whatever the step is, and alike
states show the same outputs; a step of one answers a next state exactly where a step of the other does (the steps that are no
operation are the model's: logs 3, 4, 5). -/
def Obligations.EveryStepKeepsLowPulsesAlike : Prop :=
  (∀ s u t : State, s.SameButLowStarts u → step s = .next t → ∃ v, step u = .next v ∧ t.SameButLowStarts v)
  ∧ (∀ s u : State, s.SameButLowStarts u → u.block.port = s.block.port ∧ u.block.band = s.block.band)
  ∧ (∀ s u : State, s.SameButLowStarts u → accepted (step u) = accepted (step s))

/-- Derived from R133, R134: with the cadence broken by a multiple of 256 TICKs the block sees no tick at all, so a pulse stays high
however many they are. -/
def Obligations.UnseenTicksChangeNothing : Prop :=
  ∀ (m : Nat) (b : Level) (s : State), s.block.tick = s.block.lastTick →
    (∀ i, (s.block.pulses.get i).a = true → expired s.cfg (s.block.pulses.get i).s s.block.tick = false) →
      execAll (List.replicate (256 * m) .tick ++ [.iter b]) s = .next s

/-! ### RESET and the invariant -/

/-- R32, R128: RESET writes every field of the block, with the seed of the parameters in `DEB`; it leaves the parameters, the stream
and the run's mark. R128's image and port word stand with it. -/
def Obligations.ResetWritesEveryField : Prop :=
  decode 0b100 = .operation .reset ∧ decode 0b101 = .operation .reset
  ∧ (∀ s : State, exec .reset s = .next { s with block :=
      { tick := 0x00, lastTick := 0xFF, deb := s.cfg.debSeed, band := .m40, prevBand := .sentinel,
        pulses := { r12Set := ⟨false, 0x00⟩, r12Reset := ⟨false, 0x00⟩, r34Set := ⟨false, 0x00⟩,
                    r34Reset := ⟨false, 0x00⟩ },
        out15m := false, out20m := false, cal := false } })
  ∧ (∀ s : State, s.cfg.debSeed = 0xFFFF → ∃ t, exec .reset s = .next t
      ∧ t.block.image = [0x00, 0xFF, 0xFF, 0xFF, 0x00, 0x03, 0x00, 0x00, 0x00, 0x00, 0x00, 0x00]
      ∧ t.block.port = 0x00 ∧ t.refusalMark = s.refusalMark)

/-- Derived from R115, R128: RESET discards every effect of the operations before it. -/
def Obligations.ResetDiscardsTheOperationsBefore : Prop :=
  ∀ (is : List Instr) (s : State), execAll (is ++ [.reset]) s = exec .reset s

/-- Derived from R32, R33, R129: the state right after reset meets the invariant, for the defaults and for every well-formed
configuration, and it is the state RESET gives. -/
def Obligations.InvariantHoldsAtReset : Prop :=
  State.reset.Inv ∧ State.reset = State.powerOn Config.defaults
  ∧ (∀ c : Config, c.wf = true → (State.powerOn c).Inv)
  ∧ (∀ c : Config, exec .reset (State.powerOn c) = .next (State.powerOn c))

/-- Derived from R32, R76, R97: the state right after reset holds the samples of the empty history, for every well-formed
configuration, and meets the cadence invariant, for every pulse duration of at most 11. -/
def Obligations.HistoryAndCadenceInvariantsHoldAtReset : Prop :=
  (∀ c : Config, c.wf = true → (State.powerOn c).HoldsSamples .fresh)
  ∧ (∀ d : Byte, d ≤ 11 → (State.powerOn (Config.debDefaults d)).CadenceInv { kept := true, pending := false })

/-- Derived from R33, R34, R35, R117: from every state that meets the invariant, reached or not, a step gives a state that meets it: the
mask's bits of `DEB` stay set, and either nothing was dispatched since reset or the current band was, and is shown. The step at
an ended stream, which leaves the state, is the model's (log 3); that R33 speaks of the mask's bits is log 18. -/
def Obligations.EveryStepKeepsTheInvariant : Prop :=
  ∀ s t : State, s.Inv → step s = .next t → t.Inv

/-! ### Assembler -/

/-- R58: what each pseudo-instruction expands to, in order, how many words a HOLD is, and that counts are at least 1. -/
def Obligations.PseudoInstructionExpansions : Prop :=
  (∀ b : Level, AsmLine.expand (.ti b) = [.tick, .iter b])
  ∧ (∀ (b : Level) (n : Nat), AsmLine.expand (.hold b n) = (List.replicate n [Instr.tick, .iter b]).flatten
      ∧ (assemble [.hold b n]).length = 2 * n)
  ∧ (∀ n : Nat, AsmLine.expand (.press n) = AsmLine.expand (.hold false n))
  ∧ (∀ n : Nat, AsmLine.expand (.release n) = AsmLine.expand (.hold true n))
  ∧ (∀ (b : Level) (n : Nat), AsmLine.expand (.spin b n) = List.replicate n (.iter b))
  ∧ (∀ n : Nat, AsmLine.expand (.ticks n) = List.replicate n .tick)
  ∧ (∀ (b : Level) (n : Nat), AsmLine.wellFormed (.hold b n) = decide (1 ≤ n)
      ∧ AsmLine.wellFormed (.spin b n) = decide (1 ≤ n) ∧ AsmLine.wellFormed (.press n) = decide (1 ≤ n)
      ∧ AsmLine.wellFormed (.release n) = decide (1 ≤ n) ∧ AsmLine.wellFormed (.ticks n) = decide (1 ≤ n))

/-- Derived from R57, R58: every well-formed line is read back from its text, counts included. -/
def Obligations.AssemblerReadsItsOwnText : Prop :=
  ∀ l : AsmLine, l.wellFormed = true → parseLine l.text = some l

/-- Derived from R57: an assembled line decodes to its expansion, and a listing of a word shows its three bits, bit 2 first. -/
def Obligations.AssembledWordsDecodeToTheirLine : Prop :=
  (∀ ls : List AsmLine, decodeAll (assemble ls) = some (ls.flatMap AsmLine.expand))
  ∧ wordDigits (encode (.iter false)) = ['0', '0', '0'] ∧ wordDigits (encode (.iter true)) = ['0', '0', '1']
  ∧ wordDigits (encode .tick) = ['0', '1', '0'] ∧ wordDigits (encode .reset) = ['1', '0', '0']
end

