-- ==== Sys2Proof/Laws/State.lean ====
section
/-! SUPPORT. The small lemmas of the state's writes: one per field per write, true by rfl, so that no later proof unfolds a
record update. -/

namespace Sys2Proof.Machine

/-! ### The block's fields after each write -/

section setTick
variable (k : Block) (v : Byte)
@[simp] theorem Block.setTick_tick : (k.setTick v).tick = v := rfl
@[simp] theorem Block.setTick_lastTick : (k.setTick v).lastTick = k.lastTick := rfl
@[simp] theorem Block.setTick_deb : (k.setTick v).deb = k.deb := rfl
@[simp] theorem Block.setTick_band : (k.setTick v).band = k.band := rfl
@[simp] theorem Block.setTick_prevBand : (k.setTick v).prevBand = k.prevBand := rfl
@[simp] theorem Block.setTick_pulses : (k.setTick v).pulses = k.pulses := rfl
@[simp] theorem Block.setTick_out15m : (k.setTick v).out15m = k.out15m := rfl
@[simp] theorem Block.setTick_out20m : (k.setTick v).out20m = k.out20m := rfl
@[simp] theorem Block.setTick_cal : (k.setTick v).cal = k.cal := rfl
end setTick

section setLastTick
variable (k : Block) (v : Byte)
@[simp] theorem Block.setLastTick_tick : (k.setLastTick v).tick = k.tick := rfl
@[simp] theorem Block.setLastTick_lastTick : (k.setLastTick v).lastTick = v := rfl
@[simp] theorem Block.setLastTick_deb : (k.setLastTick v).deb = k.deb := rfl
@[simp] theorem Block.setLastTick_band : (k.setLastTick v).band = k.band := rfl
@[simp] theorem Block.setLastTick_prevBand : (k.setLastTick v).prevBand = k.prevBand := rfl
@[simp] theorem Block.setLastTick_pulses : (k.setLastTick v).pulses = k.pulses := rfl
@[simp] theorem Block.setLastTick_out15m : (k.setLastTick v).out15m = k.out15m := rfl
@[simp] theorem Block.setLastTick_out20m : (k.setLastTick v).out20m = k.out20m := rfl
@[simp] theorem Block.setLastTick_cal : (k.setLastTick v).cal = k.cal := rfl
end setLastTick

section setDeb
variable (k : Block) (v : DebWord)
@[simp] theorem Block.setDeb_tick : (k.setDeb v).tick = k.tick := rfl
@[simp] theorem Block.setDeb_lastTick : (k.setDeb v).lastTick = k.lastTick := rfl
@[simp] theorem Block.setDeb_deb : (k.setDeb v).deb = v := rfl
@[simp] theorem Block.setDeb_band : (k.setDeb v).band = k.band := rfl
@[simp] theorem Block.setDeb_prevBand : (k.setDeb v).prevBand = k.prevBand := rfl
@[simp] theorem Block.setDeb_pulses : (k.setDeb v).pulses = k.pulses := rfl
@[simp] theorem Block.setDeb_out15m : (k.setDeb v).out15m = k.out15m := rfl
@[simp] theorem Block.setDeb_out20m : (k.setDeb v).out20m = k.out20m := rfl
@[simp] theorem Block.setDeb_cal : (k.setDeb v).cal = k.cal := rfl
end setDeb

section setBand
variable (k : Block) (v : Band)
@[simp] theorem Block.setBand_tick : (k.setBand v).tick = k.tick := rfl
@[simp] theorem Block.setBand_lastTick : (k.setBand v).lastTick = k.lastTick := rfl
@[simp] theorem Block.setBand_deb : (k.setBand v).deb = k.deb := rfl
@[simp] theorem Block.setBand_band : (k.setBand v).band = v := rfl
@[simp] theorem Block.setBand_prevBand : (k.setBand v).prevBand = k.prevBand := rfl
@[simp] theorem Block.setBand_pulses : (k.setBand v).pulses = k.pulses := rfl
@[simp] theorem Block.setBand_out15m : (k.setBand v).out15m = k.out15m := rfl
@[simp] theorem Block.setBand_out20m : (k.setBand v).out20m = k.out20m := rfl
@[simp] theorem Block.setBand_cal : (k.setBand v).cal = k.cal := rfl
end setBand

section setPrevBand
variable (k : Block) (v : PrevBand)
@[simp] theorem Block.setPrevBand_tick : (k.setPrevBand v).tick = k.tick := rfl
@[simp] theorem Block.setPrevBand_lastTick : (k.setPrevBand v).lastTick = k.lastTick := rfl
@[simp] theorem Block.setPrevBand_deb : (k.setPrevBand v).deb = k.deb := rfl
@[simp] theorem Block.setPrevBand_band : (k.setPrevBand v).band = k.band := rfl
@[simp] theorem Block.setPrevBand_prevBand : (k.setPrevBand v).prevBand = v := rfl
@[simp] theorem Block.setPrevBand_pulses : (k.setPrevBand v).pulses = k.pulses := rfl
@[simp] theorem Block.setPrevBand_out15m : (k.setPrevBand v).out15m = k.out15m := rfl
@[simp] theorem Block.setPrevBand_out20m : (k.setPrevBand v).out20m = k.out20m := rfl
@[simp] theorem Block.setPrevBand_cal : (k.setPrevBand v).cal = k.cal := rfl
end setPrevBand

section setPulses
variable (k : Block) (v : Pulses)
@[simp] theorem Block.setPulses_tick : (k.setPulses v).tick = k.tick := rfl
@[simp] theorem Block.setPulses_lastTick : (k.setPulses v).lastTick = k.lastTick := rfl
@[simp] theorem Block.setPulses_deb : (k.setPulses v).deb = k.deb := rfl
@[simp] theorem Block.setPulses_band : (k.setPulses v).band = k.band := rfl
@[simp] theorem Block.setPulses_prevBand : (k.setPulses v).prevBand = k.prevBand := rfl
@[simp] theorem Block.setPulses_pulses : (k.setPulses v).pulses = v := rfl
@[simp] theorem Block.setPulses_out15m : (k.setPulses v).out15m = k.out15m := rfl
@[simp] theorem Block.setPulses_out20m : (k.setPulses v).out20m = k.out20m := rfl
@[simp] theorem Block.setPulses_cal : (k.setPulses v).cal = k.cal := rfl
end setPulses

section setOut15m
variable (k : Block) (v : Level)
@[simp] theorem Block.setOut15m_tick : (k.setOut15m v).tick = k.tick := rfl
@[simp] theorem Block.setOut15m_lastTick : (k.setOut15m v).lastTick = k.lastTick := rfl
@[simp] theorem Block.setOut15m_deb : (k.setOut15m v).deb = k.deb := rfl
@[simp] theorem Block.setOut15m_band : (k.setOut15m v).band = k.band := rfl
@[simp] theorem Block.setOut15m_prevBand : (k.setOut15m v).prevBand = k.prevBand := rfl
@[simp] theorem Block.setOut15m_pulses : (k.setOut15m v).pulses = k.pulses := rfl
@[simp] theorem Block.setOut15m_out15m : (k.setOut15m v).out15m = v := rfl
@[simp] theorem Block.setOut15m_out20m : (k.setOut15m v).out20m = k.out20m := rfl
@[simp] theorem Block.setOut15m_cal : (k.setOut15m v).cal = k.cal := rfl
end setOut15m

section setOut20m
variable (k : Block) (v : Level)
@[simp] theorem Block.setOut20m_tick : (k.setOut20m v).tick = k.tick := rfl
@[simp] theorem Block.setOut20m_lastTick : (k.setOut20m v).lastTick = k.lastTick := rfl
@[simp] theorem Block.setOut20m_deb : (k.setOut20m v).deb = k.deb := rfl
@[simp] theorem Block.setOut20m_band : (k.setOut20m v).band = k.band := rfl
@[simp] theorem Block.setOut20m_prevBand : (k.setOut20m v).prevBand = k.prevBand := rfl
@[simp] theorem Block.setOut20m_pulses : (k.setOut20m v).pulses = k.pulses := rfl
@[simp] theorem Block.setOut20m_out15m : (k.setOut20m v).out15m = k.out15m := rfl
@[simp] theorem Block.setOut20m_out20m : (k.setOut20m v).out20m = v := rfl
@[simp] theorem Block.setOut20m_cal : (k.setOut20m v).cal = k.cal := rfl
end setOut20m

section setCal
variable (k : Block) (v : Level)
@[simp] theorem Block.setCal_tick : (k.setCal v).tick = k.tick := rfl
@[simp] theorem Block.setCal_lastTick : (k.setCal v).lastTick = k.lastTick := rfl
@[simp] theorem Block.setCal_deb : (k.setCal v).deb = k.deb := rfl
@[simp] theorem Block.setCal_band : (k.setCal v).band = k.band := rfl
@[simp] theorem Block.setCal_prevBand : (k.setCal v).prevBand = k.prevBand := rfl
@[simp] theorem Block.setCal_pulses : (k.setCal v).pulses = k.pulses := rfl
@[simp] theorem Block.setCal_out15m : (k.setCal v).out15m = k.out15m := rfl
@[simp] theorem Block.setCal_out20m : (k.setCal v).out20m = k.out20m := rfl
@[simp] theorem Block.setCal_cal : (k.setCal v).cal = v := rfl
end setCal

/-! ### The machine's fields after each write -/

section State
variable (s : State) (k : Block) (ws : List CommandWord)
@[simp] theorem State.setBlock_cfg : (s.setBlock k).cfg = s.cfg := rfl
@[simp] theorem State.setBlock_block : (s.setBlock k).block = k := rfl
@[simp] theorem State.setBlock_stream : (s.setBlock k).stream = s.stream := rfl
@[simp] theorem State.setBlock_refusalMark : (s.setBlock k).refusalMark = s.refusalMark := rfl
@[simp] theorem State.setStream_cfg : (s.setStream ws).cfg = s.cfg := rfl
@[simp] theorem State.setStream_block : (s.setStream ws).block = s.block := rfl
@[simp] theorem State.setStream_stream : (s.setStream ws).stream = ws := rfl
@[simp] theorem State.setStream_refusalMark : (s.setStream ws).refusalMark = s.refusalMark := rfl
@[simp] theorem State.refuse_cfg : (s.refuse).cfg = s.cfg := rfl
@[simp] theorem State.refuse_block : (s.refuse).block = s.block := rfl
@[simp] theorem State.refuse_stream : (s.refuse).stream = s.stream := rfl
@[simp] theorem State.refuse_refusalMark : (s.refuse).refusalMark = true := rfl
end State

/-! ### The reset state -/

@[simp] theorem Block.atReset_tick (c : Config) : (Block.atReset c).tick = 0 := rfl
@[simp] theorem Block.atReset_lastTick (c : Config) : (Block.atReset c).lastTick = 255 := rfl
@[simp] theorem Block.atReset_deb (c : Config) : (Block.atReset c).deb = c.debSeed := rfl
@[simp] theorem Block.atReset_band (c : Config) : (Block.atReset c).band = .m40 := rfl
@[simp] theorem Block.atReset_prevBand (c : Config) : (Block.atReset c).prevBand = .sentinel := rfl
@[simp] theorem Block.atReset_out15m (c : Config) : (Block.atReset c).out15m = false := rfl
@[simp] theorem Block.atReset_out20m (c : Config) : (Block.atReset c).out20m = false := rfl
@[simp] theorem Block.atReset_cal (c : Config) : (Block.atReset c).cal = false := rfl
@[simp] theorem Block.atReset_pulse_a (c : Config) (i : PulseId) : ((Block.atReset c).pulses.get i).a = false := by
  cases i <;> rfl
@[simp] theorem Block.atReset_pulse_s (c : Config) (i : PulseId) : ((Block.atReset c).pulses.get i).s = 0 := by
  cases i <;> rfl
@[simp] theorem State.powerOn_cfg (c : Config) : (State.powerOn c).cfg = c := rfl
@[simp] theorem State.powerOn_block (c : Config) : (State.powerOn c).block = Block.atReset c := rfl
@[simp] theorem State.powerOn_stream (c : Config) : (State.powerOn c).stream = [] := rfl
@[simp] theorem State.powerOn_refusalMark (c : Config) : (State.powerOn c).refusalMark = false := rfl

end Sys2Proof.Machine
end

