-- ==== Sys2Proof/Laws/Ops.lean ====
section
/-! SUPPORT. One spec lemma per shared operation: the relay-pulse file, the stream, arming, the expiry engine, the debounce
filter's writes and the dispatcher's. Later proofs cite these instead of unfolding the operations. -/

namespace Sys2Proof.Machine

/-! ### The relay-pulse file -/

/-- Read after write, to the same entry and to another. -/
@[simp] theorem Pulses.get_set (ps : Pulses) (i j : PulseId) (p : Pulse) :
    (ps.set i p).get j = if j = i then p else ps.get j := by
  cases i <;> cases j <;> rfl

/-- A function applied to every entry. -/
@[simp] theorem Pulses.get_map (f : Pulse → Pulse) (ps : Pulses) (i : PulseId) :
    (ps.map f).get i = f (ps.get i) := by
  cases i <;> rfl

/-- Two pulse files with the same entries are equal. -/
theorem Pulses.ext_get {ps qs : Pulses} (h : ∀ i, ps.get i = qs.get i) : ps = qs := by
  obtain ⟨a, b, c, d⟩ := ps
  obtain ⟨a', b', c', d'⟩ := qs
  have h0 := h .r12Set
  have h1 := h .r12Reset
  have h2 := h .r34Set
  have h3 := h .r34Reset
  simp only [Pulses.get] at h0 h1 h2 h3
  simp [h0, h1, h2, h3]

/-! ### The stream -/

/-- What fetching answers: nothing exactly where the stream has ended. -/
theorem State.fetch_eq_none (s : State) : s.fetch = none ↔ s.stream = [] := by
  unfold State.fetch
  cases s.stream <;> simp

/-- What fetching answers: the first word and the words after it. -/
theorem State.fetch_eq_some (s : State) (w : CommandWord) (ws : List CommandWord) :
    s.fetch = some (w, ws) ↔ s.stream = w :: ws := by
  unfold State.fetch
  cases s.stream <;> simp

/-- The supplied word is the next one fetched. -/
@[simp] theorem State.fetch_supply (s : State) (w : CommandWord) : (s.supply w).fetch = some (w, s.stream) := rfl

/-! ### Arming and expiry -/

/-- ARM writes one entry of the pulse file and nothing else. -/
theorem Block.arm_eq (i : PulseId) (now : Byte) (k : Block) :
    k.arm i now = k.setPulses (k.pulses.set i { a := true, s := now }) := rfl

/-- The flag after the test. -/
@[simp] theorem Pulse.expire_a (c : Config) (now : Byte) (p : Pulse) :
    (p.expire c now).a = (p.a && !expired c p.s now) := rfl

/-- The test never writes the assertion tick. -/
@[simp] theorem Pulse.expire_s (c : Config) (now : Byte) (p : Pulse) : (p.expire c now).s = p.s := rfl

/-- A second test at the same tick changes nothing. -/
theorem Pulse.expire_expire (c : Config) (now : Byte) (p : Pulse) :
    (p.expire c now).expire c now = p.expire c now := by
  simp [Pulse.expire]

/-- EXPIRE_ALL writes the pulse file and nothing else. -/
theorem Block.expireAll_eq (c : Config) (now : Byte) (k : Block) :
    k.expireAll c now = k.setPulses (k.pulses.map (Pulse.expire c now)) := rfl

/-! ### The debounce filter -/

/-- The sample is the level in bit 0 and zeros above. -/
theorem sample_bit (b : Level) (i : Nat) : (sample b).getLsbD i = (decide (i = 0) && b) := by
  unfold sample
  cases b <;> cases i <;> simp

/-- The trigger test and the band advance write `BAND` and nothing else. -/
theorem Block.testTrigger_eq (c : Config) (k : Block) :
    k.testTrigger c = k.setBand (if k.deb = c.debTrigger then k.band.next else k.band) := by
  unfold Block.testTrigger Block.triggered Block.bandAdvance
  by_cases h : k.deb = c.debTrigger <;> simp [h, Block.setBand]

/-- The lowest set bit is the one that is set with none below it. -/
theorem lowestSetBit_eq (v : DebWord) (n : Nat) (hn : n < 16) (hs : v.getLsbD n = true)
    (hz : ∀ j, j < n → v.getLsbD j = false) : lowestSetBit v = n := by
  have h : (List.range 16).find? (fun i => v.getLsbD i) = some n := by
    rw [List.find?_range_eq_some]
    exact ⟨hs, List.mem_range.2 hn, fun j hj => by simp [hz j hj]⟩
  unfold lowestSetBit debWidth
  rw [h]
  rfl

/-! ### The dispatcher -/

/-- A row's indicator levels. -/
theorem Block.row_indicators (b : Band) (now : Byte) (k : Block) :
    (k.row b now).out15m = decide (b = .m15) ∧ (k.row b now).out20m = decide (b = .m20) := by
  cases b <;> exact ⟨rfl, rfl⟩

/-- A row writes the indicators and the pulse file and nothing else. -/
theorem Block.row_frame (b : Band) (now : Byte) (k : Block) :
    (k.row b now).tick = k.tick ∧ (k.row b now).lastTick = k.lastTick ∧ (k.row b now).deb = k.deb
      ∧ (k.row b now).band = k.band ∧ (k.row b now).prevBand = k.prevBand ∧ (k.row b now).cal = k.cal := by
  cases b <;> exact ⟨rfl, rfl, rfl, rfl, rfl, rfl⟩

/-- Dispatching an unchanged band writes nothing. -/
theorem Block.dispatch_same (now : Byte) (k : Block) (h : k.prevBand = .dispatched k.band) : k.dispatch now = k := by
  simp [Block.dispatch, h]

/-- Dispatching a changed band runs its row and records it. -/
theorem Block.dispatch_changed (now : Byte) (k : Block) (h : k.prevBand ≠ .dispatched k.band) :
    k.dispatch now = (k.row k.band now).setPrevBand (.dispatched k.band) := by
  simp [Block.dispatch, Ne.symm h]

end Sys2Proof.Machine
end

