-- ==== Sys2Proof/Laws/Iter.lean ====
section
/-! SUPPORT. What one ITER leaves in each field of the block, said once (40_step R62 to R66): with the gate open, and with the
gate closed. -/

namespace Sys2Proof.Machine

variable (c : Config) (b : Level) (k : Block)

/-- The band after the trigger test of a gated ITER (41_debounce R73, R74). -/
def bandAfter : Band := if debShift c b k.deb = c.debTrigger then k.band.next else k.band

/-- The gate is open exactly where the snapshot differs from `LAST_TICK`. -/
theorem gated_iff : k.gated = true ↔ k.tick ≠ k.lastTick := by simp [Block.gated, Block.now]

/-- The gate is closed exactly where the snapshot equals `LAST_TICK`. -/
theorem not_gated_iff : k.gated = false ↔ k.tick = k.lastTick := by simp [Block.gated, Block.now]

/-- An ungated ITER is the expiry engine alone. -/
theorem iter_ungated (h : k.gated = false) : k.iter c b = k.expireAll c k.tick := by
  simp [Block.iter, h, Block.now]

/-- A gated ITER is the gated part and then the expiry engine. -/
theorem iter_gated (h : k.gated = true) : k.iter c b = (k.gatedPart c b k.tick).expireAll c k.tick := by
  simp [Block.iter, h, Block.now]

/-- The block a gated ITER hands to its dispatcher. -/
def beforeDispatch : Block :=
  (((k.setLastTick k.tick).setDeb (debShift c b k.deb)).setBand (bandAfter c b k)).setCal (!k.cal)

/-- The gated part is the dispatcher on that block. -/
theorem gatedPart_eq : k.gatedPart c b k.tick = (beforeDispatch c b k).dispatch k.tick := by
  unfold Block.gatedPart
  rw [Block.testTrigger_eq]
  rfl

/-- The dispatcher writes no field but the indicators, the pulses and `PREV_BAND`, which it makes the band's. -/
theorem dispatch_frame (now : Byte) :
    (k.dispatch now).tick = k.tick ∧ (k.dispatch now).lastTick = k.lastTick ∧ (k.dispatch now).deb = k.deb
      ∧ (k.dispatch now).band = k.band ∧ (k.dispatch now).prevBand = .dispatched k.band
      ∧ (k.dispatch now).cal = k.cal := by
  by_cases h : k.prevBand = .dispatched k.band
  · simp [Block.dispatch_same, h]
  · simp [Block.dispatch_changed now k h, Block.row_frame]

/-- No ITER writes `TICK`. -/
@[simp] theorem iter_tick : (k.iter c b).tick = k.tick := by
  cases h : k.gated
  · simp [iter_ungated c b k h, Block.expireAll]
  · simp [iter_gated c b k h, gatedPart_eq, Block.expireAll, dispatch_frame, beforeDispatch]

/-- After an ITER, gated or not, `LAST_TICK` is the snapshot. -/
@[simp] theorem iter_lastTick : (k.iter c b).lastTick = k.tick := by
  cases h : k.gated
  · simp [iter_ungated c b k h, Block.expireAll, (not_gated_iff k).1 h]
  · simp [iter_gated c b k h, gatedPart_eq, Block.expireAll, dispatch_frame, beforeDispatch]

/-- After an ITER the gate is closed until the counter changes. -/
@[simp] theorem iter_gated_after : (k.iter c b).gated = false := by simp [not_gated_iff]

/-- `DEB` after an ITER. -/
theorem iter_deb : (k.iter c b).deb = if k.gated then debShift c b k.deb else k.deb := by
  cases h : k.gated
  · simp [iter_ungated c b k h, Block.expireAll]
  · simp [iter_gated c b k h, gatedPart_eq, Block.expireAll, dispatch_frame, beforeDispatch]

/-- `BAND` after an ITER. -/
theorem iter_band : (k.iter c b).band = if k.gated then bandAfter c b k else k.band := by
  cases h : k.gated
  · simp [iter_ungated c b k h, Block.expireAll]
  · simp [iter_gated c b k h, gatedPart_eq, Block.expireAll, dispatch_frame, beforeDispatch]

/-- `CAL` after an ITER. -/
theorem iter_cal : (k.iter c b).cal = if k.gated then !k.cal else k.cal := by
  cases h : k.gated
  · simp [iter_ungated c b k h, Block.expireAll]
  · simp [iter_gated c b k h, gatedPart_eq, Block.expireAll, dispatch_frame, beforeDispatch]

/-- `PREV_BAND` after an ITER. -/
theorem iter_prevBand :
    (k.iter c b).prevBand = if k.gated then .dispatched (bandAfter c b k) else k.prevBand := by
  cases h : k.gated
  · simp [iter_ungated c b k h, Block.expireAll]
  · simp [iter_gated c b k h, gatedPart_eq, Block.expireAll, dispatch_frame, beforeDispatch]

/-- A gated ITER dispatches a row exactly where the band after its trigger test is not the last dispatched one. -/
def dispatches : Prop := k.gated = true ∧ k.prevBand ≠ .dispatched (bandAfter c b k)

/-- An ITER that dispatches no row leaves the indicators and every assertion tick. -/
theorem iter_quiet (h : ¬ dispatches c b k) :
    (k.iter c b).out15m = k.out15m ∧ (k.iter c b).out20m = k.out20m
      ∧ ∀ i, (k.iter c b).pulses.get i = (k.pulses.get i).expire c k.tick := by
  cases hg : k.gated
  · simp [iter_ungated c b k hg, Block.expireAll]
  · have hp : k.prevBand = .dispatched (bandAfter c b k) := by
      simpa [dispatches, hg] using h
    have hs : (beforeDispatch c b k).dispatch k.tick = beforeDispatch c b k :=
      Block.dispatch_same _ _ (by simp [beforeDispatch, hp])
    simp only [iter_gated c b k hg, gatedPart_eq, hs]
    simp [Block.expireAll, beforeDispatch]

/-- A row writes the entries it arms and no other. -/
theorem row_pulse (band : Band) (now : Byte) (i : PulseId) :
    (k.row band now).pulses.get i = if armedBy band i then { a := true, s := now } else k.pulses.get i := by
  cases band <;> cases i <;> rfl

/-- An ITER that dispatches a row shows the new band and tests every pulse as the row left it. -/
theorem iter_dispatching (h : dispatches c b k) :
    (k.iter c b).out15m = decide (bandAfter c b k = .m15) ∧ (k.iter c b).out20m = decide (bandAfter c b k = .m20)
      ∧ ∀ i, (k.iter c b).pulses.get i = Pulse.expire c k.tick
          (if armedBy (bandAfter c b k) i then { a := true, s := k.tick } else k.pulses.get i) := by
  obtain ⟨hg, hp⟩ := h
  have hd := Block.dispatch_changed k.tick (beforeDispatch c b k) (by simpa [beforeDispatch] using hp)
  refine ⟨?_, ?_, fun i => ?_⟩
  · simp only [iter_gated c b k hg, gatedPart_eq, hd]
    simp [Block.expireAll, beforeDispatch, Block.row_indicators]
  · simp only [iter_gated c b k hg, gatedPart_eq, hd]
    simp [Block.expireAll, beforeDispatch, Block.row_indicators]
  · simp only [iter_gated c b k hg, gatedPart_eq, hd]
    simp [Block.expireAll, beforeDispatch, row_pulse]

end Sys2Proof.Machine
end

