-- ==== Sys2Proof/Laws/Exec.lean ====
section
/-! SUPPORT. What an operation, a list of operations and a step can do, said once. `effect` is the effect of an
operation on the block alone: every operation answers a next state that differs in the block only. -/

namespace Sys2Proof.Machine

/-- The effect of an operation on the block under the parameters `c`. -/
def effect (c : Config) (i : Instr) (k : Block) : Block :=
  match i with
  | .iter b => k.iter c b
  | .tick => k.countTick
  | .reset => k.resetAll c

/-- Every operation answers a next state, which differs in the block only. -/
theorem exec_eq (i : Instr) (s : State) : exec i s = .next (s.setBlock (effect s.cfg i s.block)) := by
  cases i <;> rfl

/-- A list of operations answers the state whose block the effects gave in order. -/
theorem execAll_eq (is : List Instr) (s : State) :
    execAll is s = .next (s.setBlock (is.foldl (fun k i => effect s.cfg i k) s.block)) := by
  induction is generalizing s with
  | nil => rfl
  | cons i is ih => simp [execAll, exec_eq, ih, State.setBlock]

/-- The operations of two lists, one list after the other. -/
theorem execAll_append (is js : List Instr) (s t : State) (h : execAll is s = .next t) :
    execAll (is ++ js) s = execAll js t := by
  rw [execAll_eq] at h
  cases h
  simp [execAll_eq, State.setBlock, List.foldl_append]

/-- The history of a list: the first operation is noted, the rest follow from the state it leaves. -/
theorem historyAfter_cons (i : Instr) (is : List Instr) (s : State) (h : History) :
    historyAfter (i :: is) s h = historyAfter is (s.setBlock (effect s.cfg i s.block)) (h.note i s) := by
  simp [historyAfter, exec_eq]

/-- RESET leaves the reset state of 10_state R32, whatever was before. -/
theorem resetAll_eq (c : Config) (k : Block) : k.resetAll c = Block.atReset c := rfl

/-- TICK writes `TICK` and nothing else. -/
theorem countTick_eq (k : Block) : k.countTick = k.setTick (k.tick + 1) := rfl

/-- Everything a step that answers a next state can have done: nothing, at the end of the stream, or the operation the next
word decodes to. -/
theorem step_next_cases (s t : State) (h : step s = .next t) :
    s.refusalMark = false ∧ s.cfg.wf = true ∧
      ((s.stream = [] ∧ t = s)
        ∨ ∃ w ws i, s.stream = w :: ws ∧ decode w = .operation i
            ∧ t = (s.setStream ws).setBlock (effect s.cfg i s.block)) := by
  unfold step at h
  split at h
  · cases h
  · rename_i hm
    split at h
    · rename_i hc
      refine ⟨by simpa using hm, hc, ?_⟩
      split at h
      · rename_i hf
        cases h
        exact .inl ⟨(State.fetch_eq_none s).1 hf, rfl⟩
      · rename_i w ws hf
        split at h
        · rename_i i hd
          rw [exec_eq] at h
          cases h
          exact .inr ⟨w, ws, i, (State.fetch_eq_some s w ws).1 hf, hd, rfl⟩
        · cases h
    · cases h

end Sys2Proof.Machine
end

