-- ==== Sys2Proof/Laws/PerInstr.lean ====
section
/-! SUPPORT. The per-instruction family `RowOfWord`: the word an instruction is encoded as has the fixed bits of the
instruction's own row of the opcode map, and of no other row (30_encoding R60). -/

namespace Sys2Proof.Laws

/-- The encoded word lies in the instruction's row and in no other row of the map. -/
def RowOfWord.Statement (i : Instr) : Prop := (opcodeMap.filter fun r => r.holds (encode i)) = [i.row]

/-- ITER, with either sample. -/
theorem RowOfWord.iter (b : Level) : RowOfWord.Statement (.iter b) := by
  cases b <;> (unfold RowOfWord.Statement; decide)

/-- TICK. -/
theorem RowOfWord.tick : RowOfWord.Statement .tick := by
  unfold RowOfWord.Statement
  decide

/-- RESET. -/
theorem RowOfWord.reset : RowOfWord.Statement .reset := by
  unfold RowOfWord.Statement
  decide

end Sys2Proof.Laws
end

