-- ==== Sys2Proof/Tests/Slice0.lean ====
section
/-! SUPPORT. The model's own tests: the well-formedness smoke tests, decoding from words written out from 30_encoding, a few
vectors of 95_test_vectors (named in each docstring), and for each statement with hypotheses a witness that meets them. -/

namespace Sys2Proof.Tests

open Sys2Proof.Machine

/-! ### Well-formedness: one ill-formed term for each check (00_scope R6; 30_encoding R51, R58) -/

/-- R6: the defaults are well formed. -/
theorem test_wf_defaults : Config.defaults.wf = true := by decide

/-- R6, first condition: `DEB_N` = 15 is too large; the other three conditions hold. -/
theorem test_wf_refuses_run_length :
    (Config.mk 3 0x0000 0x8000 0xFFFF).wf = false ∧ (Config.mk 3 0x0000 0x8000 0xFFFF).maskShape = true
      ∧ (Config.mk 3 0x0000 0x8000 0xFFFF).triggerShape = true := by decide

/-- R6, second condition: the mask lacks bit 13; the others hold. -/
theorem test_wf_refuses_mask :
    (Config.mk 3 0xC000 0xD000 0xFFFF).wf = false ∧ (Config.mk 3 0xC000 0xD000 0xFFFF).runLengthInRange = true
      ∧ (Config.mk 3 0xC000 0xD000 0xFFFF).triggerShape = true := by decide

/-- R6, third condition: the trigger lacks bit 14 of the mask; the others hold. -/
theorem test_wf_refuses_trigger :
    (Config.mk 3 0xE000 0xB000 0xFFFF).wf = false ∧ (Config.mk 3 0xE000 0xB000 0xFFFF).maskShape = true
      ∧ (Config.mk 3 0xE000 0xB000 0xFFFF).seedShape = true := by decide

/-- R6, fourth condition: the seed lacks bit 15; the others hold. -/
theorem test_wf_refuses_seed :
    (Config.mk 3 0xE000 0xF000 0x7FFF).wf = false ∧ (Config.mk 3 0xE000 0xF000 0x7FFF).maskShape = true
      ∧ (Config.mk 3 0xE000 0xF000 0x7FFF).triggerShape = true := by decide

/-- R5, the seed's range: `DEB_N` = 13 and a seed without bit 13; R6's four conditions hold. With bit 13 it is well formed. -/
theorem test_wf_refuses_seed_range :
    (Config.mk 3 0xC000 0xE000 0xDFFF).wf = false ∧ (Config.mk 3 0xC000 0xE000 0xDFFF).runLengthInRange = true
      ∧ (Config.mk 3 0xC000 0xE000 0xDFFF).maskShape = true ∧ (Config.mk 3 0xC000 0xE000 0xDFFF).triggerShape = true
      ∧ (Config.mk 3 0xC000 0xE000 0xDFFF).seedShape = true ∧ (Config.mk 3 0xC000 0xE000 0xFFFF).wf = true := by decide

/-- R51: the reserved words are ill formed, the others well formed. -/
theorem test_wf_words :
    wordWellFormed 0b110 = false ∧ wordWellFormed 0b111 = false ∧ wordWellFormed 0b101 = true
      ∧ wordWellFormed 0b000 = true := by decide

/-- R58: a count of 0 is ill formed. -/
theorem test_wf_count : AsmLine.wellFormed (.hold true 0) = false ∧ AsmLine.wellFormed (.hold true 1) = true := by decide

/-! ### Decoding (30_encoding R48, R49, R50; V-ENC-1) -/

/-- `ITER`: `0b00B`. -/
theorem test_decode_iter :
    decode 0b000 = .operation (.iter false) ∧ decode 0b001 = .operation (.iter true) := by decide

/-- `TICK`: `0b01x`. -/
theorem test_decode_tick : decode 0b010 = .operation .tick ∧ decode 0b011 = .operation .tick := by decide

/-- `RESET`: `0b10x`. -/
theorem test_decode_reset : decode 0b100 = .operation .reset ∧ decode 0b101 = .operation .reset := by decide

/-- The reserved words. -/
theorem test_decode_reserved : decode 0b110 = .reserved ∧ decode 0b111 = .reserved := by decide

/-- The host's entry, with the table's width rounded up to whole bytes. -/
theorem test_decode_table_word :
    decodeTableWord 8 1 = some (.iter true) ∧ decodeTableWord 8 2 = some .tick ∧ decodeTableWord 8 4 = some .reset
      ∧ decodeTableWord 8 6 = none := by decide

/-- R57: the text of a line, blanks and comment included, and what is no line. -/
theorem test_assembler_text :
    parseLine ['I', 'T', 'E', 'R', ' ', 'R', ' ', ';', 'x'] = some (.op (.iter true))
      ∧ parseLine ['i', 't', 'e', 'r', ' ', '0'] = none
      ∧ parseLine ['H', 'O', 'L', 'D', ' ', 'P', ',', ' ', '1', '2'] = some (.hold false 12) := by decide

/-! ### Small states -/

/-- A state with default parameters, an unrefused run, the block `k` and the words `ws` to come. -/
def stateOf (k : Block) (ws : List CommandWord) : State :=
  { cfg := Config.defaults, block := k, stream := ws, refusalMark := false }

/-- A block whose band was dispatched: the start states of V-DSP-2 to V-DSP-6 have this form. -/
def blockOf (tick lastTick : Byte) (deb : DebWord) (band : Band) (pulses : Pulses) : Block :=
  { tick := tick, lastTick := lastTick, deb := deb, band := band, prevBand := .dispatched band, pulses := pulses,
    out15m := (indicatorsFor band).1, out20m := (indicatorsFor band).2, cal := false }

/-- Every pulse low, armed last at tick 0. -/
def noPulses : Pulses := { r12Set := ⟨false, 0⟩, r12Reset := ⟨false, 0⟩, r34Set := ⟨false, 0⟩, r34Reset := ⟨false, 0⟩ }

/-- What the block of the next state shows: its image and port word. -/
def shows (o : Host.Outcome State Fault Refusal) (image : List Byte) (port : PortWord) : Bool :=
  match o with
  | .next t => t.block.image == image && t.block.port == port
  | .fault _ => false
  | .refused _ => false

/-! ### One operation each (95_test_vectors) -/

/-- V-TICK-3: 0xFF wraps to 0x00 and nothing else changes. -/
theorem test_tick_wraps :
    shows (exec .tick (stateOf (blockOf 0xFF 7 0xE001 .m20 noPulses) []))
      [0, 7, 0x01, 0xE0, 1, 1, 0, 0, 0, 0, 0, 0x01] 0x10 = true := by decide

/-- V-ITER-1: the first ITER after reset is gated and dispatches band 0. -/
theorem test_iter_first_after_reset :
    shows (exec (.iter true) State.reset) [0x00, 0x00, 0xFF, 0xFF, 0x00, 0x00, 0x0A, 0x00, 0x00, 0x00, 0x00, 0x04] 0x4A
      = true := by decide

/-- V-DSP-4: the wrap from band 2 to band 0 leaves R12-set as it is; the R12 pair overlaps in this constructed state. -/
theorem test_iter_wraps_band :
    shows (exec (.iter false) (stateOf (blockOf 7 6 0xF800 .m15 { noPulses with r12Set := ⟨true, 5⟩ }) []))
      [7, 7, 0x00, 0xF0, 0, 0, 0x0B, 5, 7, 0, 7, 0x04] 0x4B = true := by decide

/-- V-RST-1: any state, then RESET. -/
theorem test_reset_image :
    shows (exec .reset (stateOf (blockOf 44 44 0xE00F .m15 { noPulses with r12Set := ⟨true, 26⟩ }) []))
      [0x00, 0xFF, 0xFF, 0xFF, 0x00, 0x03, 0x00, 0x00, 0x00, 0x00, 0x00, 0x00] 0x00 = true := by decide

/-- V-SRC-1, V-SRC-2 and rows of V-EXP-1 at the branches' edges. -/
theorem test_expired_rows :
    expired Config.defaults 254 2 = true ∧ expired Config.defaults 254 1 = false
      ∧ expired Config.defaults 251 254 = true ∧ expired Config.defaults 252 255 = false
      ∧ expired Config.defaults 252 0 = true ∧ expired Config.defaults 100 50 = true := by decide

/-- V-DEB-1: rows of the shift vectors. -/
theorem test_deb_shift_rows :
    debShift Config.defaults false 0xF800 = 0xF000 ∧ debShift Config.defaults true 0x1234 = 0xE469
      ∧ debShift Config.defaults false 0x0000 = 0xE000 := by decide

/-- V-ENC-3, at the reserved word: the run is refused, the block unchanged, the mark set. -/
theorem test_step_reserved :
    step (stateOf (blockOf 1 1 0xFFFF .m40 noPulses) [0b110, 0b010])
      = .refused (.reservedWord 0b110 (stateOf (blockOf 1 1 0xFFFF .m40 noPulses) [0b010]).refuse) := rfl

/-- The host's fetch, from reset: the supplied word runs as the next step. -/
theorem test_with_fetch_word :
    step (State.reset.withFetchWord 8 1) = exec (.iter true) State.reset
      ∧ step (State.reset.withFetchWord 8 2) = exec .tick State.reset
      ∧ step (State.reset.withFetchWord 8 4) = exec .reset State.reset := ⟨rfl, rfl, rfl⟩

/-! ### Witnesses: states and operands that meet a statement's hypotheses -/

/-- The gate closed, one pulse armed at this tick. -/
def closedGate : State := stateOf (blockOf 5 5 0xFFFF .m40 { noPulses with r12Reset := ⟨true, 5⟩ }) []

/-- The gate open, the next pressed sample is the twelfth, a pulse high and not yet expired (V-DSP-3). -/
def openGate : State := stateOf (blockOf 100 99 0xF800 .m20 { noPulses with r34Set := ⟨true, 98⟩ }) []

/-- DecodeFollowsOpField: a word for each value of `OP`. -/
theorem witness_op_fields :
    (0b001 : CommandWord).extractLsb' 1 2 = 0b00 ∧ (0b011 : CommandWord).extractLsb' 1 2 = 0b01
      ∧ (0b101 : CommandWord).extractLsb' 1 2 = 0b10 ∧ (0b111 : CommandWord).extractLsb' 1 2 = 0b11 := by decide

/-- DecodeAndEncodeAgree, OpcodeMapRowsDoNotOverlap: words that decode to each operation. -/
theorem witness_decoded_words :
    decode 0b001 = .operation (.iter true) ∧ decode 0b011 = .operation .tick ∧ decode 0b101 = .operation .reset := by
  decide

/-- StateImageLayoutAndRefusal: an image for each refused byte, at the least refused value, and the greatest accepted ones. -/
theorem witness_image_refusals :
    Block.ofImage [0, 0, 0, 0, 3, 3, 15, 0, 0, 0, 0, 7] = none ∧ Block.ofImage [0, 0, 0, 0, 4, 3, 15, 0, 0, 0, 0, 7] = none
      ∧ Block.ofImage [0, 0, 0, 0, 2, 4, 15, 0, 0, 0, 0, 7] = none
      ∧ Block.ofImage [0, 0, 0, 0, 2, 3, 16, 0, 0, 0, 0, 7] = none
      ∧ Block.ofImage [0, 0, 0, 0, 2, 3, 15, 0, 0, 0, 0, 8] = none
      ∧ (Block.ofImage [0, 0, 0, 0, 2, 3, 15, 0, 0, 0, 0, 7]).isSome = true := by decide

/-- StateImageRoundTrip: an image that is read. -/
theorem witness_image_read :
    Block.ofImage [0, 0xFF, 0xFF, 0xFF, 0, 3, 0, 0, 0, 0, 0, 0] = some (Block.atReset Config.defaults) := by decide

/-- NumberedFieldsFitTheirWidths: two fields with one number. -/
theorem witness_field_number : Field.number (.start .r34Reset) = Field.number (.start .r34Reset) := rfl

/-- StepRunsTheDecodedOperation: for each operation. -/
theorem witness_step_operation :
    closedGate.refusalMark = false ∧ closedGate.cfg.wf = true ∧ (closedGate.setStream [0b001]).stream = 0b001 :: []
      ∧ decode 0b001 = .operation (.iter true) ∧ decode 0b010 = .operation .tick
      ∧ decode 0b100 = .operation .reset := by decide

/-- ReservedWordRefusesTheRun: both reserved words, and a marked run. -/
theorem witness_step_reserved :
    closedGate.refusalMark = false ∧ closedGate.cfg.wf = true
      ∧ (closedGate.setStream [0b110]).stream = 0b110 :: [] ∧ (closedGate.setStream [0b111]).stream = 0b111 :: []
      ∧ closedGate.refuse.refusalMark = true := by decide

/-- IllFormedConfigurationIsRefused: a state with ill-formed parameters, and bits at both ends of the mask and the seed. -/
theorem witness_ill_formed :
    (State.powerOn (Config.mk 3 0xE000 0xF000 0x7FFF)).cfg.wf = false
      ∧ (State.powerOn (Config.mk 3 0xE000 0xF000 0x7FFF)).refusalMark = false
      ∧ Config.defaults.debMask.getLsbD 12 = false ∧ Config.defaults.debMask.getLsbD 13 = true
      ∧ Config.defaults.debSeed.getLsbD 15 = true := by decide

/-- EndedStreamLeavesTheState: the reset state. -/
theorem witness_ended_stream :
    State.reset.refusalMark = false ∧ State.reset.cfg.wf = true ∧ State.reset.stream = [] := by decide

/-- RunIsTheListOfItsOperations, RunIsRefusedExactlyAtAReservedWord: a run of each kind. -/
theorem witness_runs :
    Config.defaults.wf = true ∧ decodeAll [0b100, 0b001, 0b010] = some [.reset, .iter true, .tick]
      ∧ decodeAll [0b100, 0b001, 0b110, 0b010] = none := by decide

/-- TickIncrementsTheCounter: the counter at its last value. -/
theorem witness_tick_last : (stateOf (blockOf 255 7 0xE001 .m20 noPulses) []).block.tick = 255 := rfl

/-- IterResultFieldByField, ItersWithoutATickAddNothing, NextIterIsGatedIffTicksChanged, BandAdvancesExactlyOnTheTrigger: the gate
open, with an ITER that
dispatches (pressed) and one that does not (released). -/
theorem witness_open_gate :
    openGate.block.tick ≠ openGate.block.lastTick ∧ openGate.block.gated = true
      ∧ openGate.block.prevBand ≠ .dispatched (openGate.block.iter openGate.cfg false).band
      ∧ openGate.block.prevBand = .dispatched (openGate.block.iter openGate.cfg true).band := by decide

/-- IterResultFieldByField, UngatedIterOnlyExpires, UnseenTicksChangeNothing: the gate closed, no asserted pulse expired. -/
theorem witness_closed_gate :
    closedGate.block.tick = closedGate.block.lastTick ∧ (closedGate.block.pulses.get .r12Reset).a = true
      ∧ ∀ i, (closedGate.block.pulses.get i).a = true →
          expired closedGate.cfg (closedGate.block.pulses.get i).s closedGate.block.tick = false :=
  ⟨rfl, rfl, fun i => by cases i <;> decide⟩

/-- OperationsWriteOnlyTheirFields: a field outside each operation's row, and a flag that an ungated ITER leaves high. -/
theorem witness_not_written :
    mayWrite .tick false .deb = false ∧ mayWrite (.iter true) true .tick = false
      ∧ mayWrite (.iter true) false .lastTick = false ∧ closedGate.block.gated = false
      ∧ ((closedGate.block.iter closedGate.cfg true).pulses.get .r12Reset).a = true := by decide

/-- FlagsChangeOnlyByArmExpireAndReset: a flag set by an ITER, one cleared by an ITER, one cleared by RESET. -/
theorem witness_flag_changes :
    (openGate.block.pulses.get .r12Set).a = false
      ∧ ((openGate.block.iter openGate.cfg false).pulses.get .r12Set).a = true
      ∧ ((blockOf 101 100 0xFFFF .m20 { noPulses with r34Set := ⟨true, 98⟩ }).pulses.get .r34Set).a = true
      ∧ (((blockOf 101 100 0xFFFF .m20 { noPulses with r34Set := ⟨true, 98⟩ }).iter Config.defaults true).pulses.get
          .r34Set).a = false
      ∧ ((openGate.block.resetAll openGate.cfg).pulses.get .r34Set).a = false := by decide

/-- DebounceShiftBitByBit: the bits at both ends. -/
theorem witness_bit_range : 0 < 16 ∧ 15 < 16 := by decide

/-- DebHoldsTheGatedSamples: well-formed parameters, the last bit that holds samples and the mask's bits at both ends. -/
theorem witness_deb_bits : Config.defaults.wf = true ∧ 12 ≤ Config.defaults.debN ∧ Config.defaults.debN < 13 ∧ 15 < 16 := by
  decide

/-- HeldFromResetAdvancesBySeed: seeds with the lowest set bit below `DEB_N` (the default, and one of log 19) and above it (R78's). -/
theorem witness_held_from_reset :
    Config.defaults.wf = true ∧ (Config.mk 3 0xE000 0xF000 0xE800).wf = true ∧ lowestSetBit 0xE800 = 11
      ∧ (Config.mk 3 0xE000 0xF000 0xE000).wf = true ∧ lowestSetBit 0xE000 = 13 := by decide

/-- OnePressAdvancesOnce: after a released sample, gate closed. -/
theorem witness_before_press :
    closedGate.cfg = Config.debDefaults 3 ∧ closedGate.block.tick = closedGate.block.lastTick
      ∧ closedGate.block.deb.getLsbD 0 = true := by decide

/-- Right after an advance, gate closed. -/
def justAdvanced : State := stateOf (blockOf 9 9 0xF000 .m20 noPulses) []

/-- The operations of 13 gated ITERs after an advance: a released sample and 12 pressed ones (V-DEB-9). -/
def thirteenSamples : List Instr := tickIters (true :: List.replicate 12 false)

/-- AdvancesAreThirteenGatedItersApart: right after an advance, the gate closed, and operations with no RESET among them. -/
theorem witness_just_advanced :
    justAdvanced.cfg = Config.debDefaults 3 ∧ justAdvanced.block.deb = 0xF000
      ∧ justAdvanced.block.tick = justAdvanced.block.lastTick ∧ .reset ∉ thirteenSamples := by decide

/-- AdvancesAreThirteenGatedItersApart: those operations reach the next advance. -/
theorem witness_next_advance : 1 ≤ (historyAfter thirteenSamples justAdvanced .fresh).advances := by decide

/-- DispatchFollowsTheMappingTable: a block with its band dispatched, and one for each row. -/
theorem witness_dispatch_rows :
    closedGate.block.prevBand = .dispatched closedGate.block.band
      ∧ (closedGate.block.setPrevBand .sentinel).band = .m40 ∧ (closedGate.block.setBand .m20).band = .m20
      ∧ (closedGate.block.setBand .m20).prevBand ≠ .dispatched .m20 ∧ (closedGate.block.setBand .m15).band = .m15
      ∧ (closedGate.block.setBand .m15).prevBand ≠ .dispatched .m15
      ∧ (closedGate.block.setPrevBand .sentinel).prevBand ≠ .dispatched .m40 := by decide

/-- DispatcherOnlyAsserts: a high pulse, one the row arms and one it does not. -/
theorem witness_dispatcher_pulses :
    (closedGate.block.pulses.get .r12Reset).a = true ∧ armedBy closedGate.block.band .r34Reset = true
      ∧ armedBy closedGate.block.band .r34Set = false := by decide

/-- BandIsShownOnceGated: a history with no gated ITER and one with one. -/
theorem witness_histories :
    (historyAfter [.tick] State.reset .fresh).samples = []
      ∧ (historyAfter [.tick, .iter true] State.reset .fresh).samples ≠ [] := by decide

/-- FirstGatedIterDispatchesBandZero: the tick counts at the edges, the least pulse duration that shows, and a legal seed of
log 20, under which a pressed first sample triggers, beside the default, under which neither sample does. -/
theorem witness_first_iter :
    255 % 256 = 255 ∧ 254 % 256 ≠ 255 ∧ 256 % 256 ≠ 255 ∧ (1 : Byte) ≤ 1 ∧ armedBy .m40 .r12Reset = true
      ∧ (Config.mk 3 0xE000 0xF000 0xE800).wf = true ∧ debShift (Config.mk 3 0xE000 0xF000 0xE800) false 0xE800 = 0xF000
      ∧ debShift Config.defaults false 0xFFFF ≠ 0xF000 ∧ debShift Config.defaults true 0xFFFF ≠ 0xF000 := by
  decide

/-- PairsAreExclusiveUnderTheCadence: the longest duration, and a stream that keeps the cadence after one that did not. -/
theorem witness_cadence :
    (11 : Byte) ≤ 11 ∧ keepsCadence [.tick, .iter false, .iter false, .tick] = true
      ∧ keepsCadence [.tick, .tick, .reset, .tick, .iter true] = true ∧ keepsCadence [.iter true, .tick, .tick] = false := by
  decide

/-- TwelveOrMoreTicksBreakPairExclusivity: both ends of the range. -/
theorem witness_long_durations : (12 : Byte) ≤ 12 ∧ (12 : Byte) ≤ 255 := by decide

/-- ElapsedTestByItsThreeBranches, ElapsedTestClosedForm: each branch at its edges, with the default duration. -/
theorem witness_branches :
    255 - Config.defaults.pulseD.toNat ≤ (252 : Byte).toNat ∧ (251 : Byte).toNat < 255 - Config.defaults.pulseD.toNat
      ∧ expired Config.defaults 252 252 = false ∧ expired Config.defaults 252 251 = true
      ∧ expired Config.defaults 251 254 = true := by decide

/-- PulsesThatNeverExpire: a start that never expires and the greatest duration for which there is none. -/
theorem witness_never_expiring :
    2 * (255 - (Config.debDefaults 128).pulseD.toNat) ≤ (254 : Byte).toNat ∧ (Config.debDefaults 127).pulseD ≤ 127 := by
  decide

/-- ExpiryEngineClearsExpiredPulses: a low pulse. -/
theorem witness_low_pulse : (closedGate.block.pulses.get .r12Set).a = false := by decide

/-- PulseWidthUnderTheCadence: a pulse just armed, seen at no tick yet and at as many as the statement allows. -/
theorem witness_just_armed :
    1 ≤ closedGate.cfg.pulseD ∧ closedGate.block.tick = closedGate.block.lastTick
      ∧ closedGate.block.pulses.get .r12Reset = { a := true, s := closedGate.block.tick }
      ∧ ([] : List Level).length < 256 ∧ (List.replicate 255 true).length < 256
      ∧ ((closedGate.block.pulses.get .r12Reset).s = closedGate.block.tick) :=
  ⟨by decide, rfl, rfl, by decide, by rw [List.length_replicate]; omega, rfl⟩

/-- PulseArmedNowIsTestedAtZero: the least duration of each clause. -/
theorem witness_least_durations : 1 ≤ (Config.debDefaults 1).pulseD ∧ (Config.debDefaults 0).pulseD = 0 := by decide

/-- PulseEntriesAreIndependent: another pulse file with the same entry. -/
theorem witness_other_pulses :
    ({ noPulses with r12Reset := ⟨true, 5⟩, r34Set := ⟨true, 77⟩ } : Pulses).get .r12Reset
      = closedGate.block.pulses.get .r12Reset := rfl

/-- StartTickOfALowPulseIsInvisible: another pulse file that differs in a low pulse's assertion tick alone. -/
theorem witness_low_pulse_start :
    ∀ i, (({ noPulses with r12Reset := ⟨true, 5⟩, r34Set := ⟨false, 77⟩ } : Pulses).get i).a
        = (closedGate.block.pulses.get i).a
      ∧ ((({ noPulses with r12Reset := ⟨true, 5⟩, r34Set := ⟨false, 77⟩ } : Pulses).get i).a = true →
          (({ noPulses with r12Reset := ⟨true, 5⟩, r34Set := ⟨false, 77⟩ } : Pulses).get i).s
            = (closedGate.block.pulses.get i).s) :=
  fun i => by cases i <;> decide

/-- ResetWritesEveryField: the default seed. -/
theorem witness_seed : closedGate.cfg.debSeed = 0xFFFF := rfl

/-- EveryStepKeepsTheInvariant: a state that meets the invariant and takes a step, in each of its two cases. -/
theorem witness_invariant_step :
    (State.reset.supply 0b001).Inv ∧ accepted (step (State.reset.supply 0b001)) = true
      ∧ (openGate.supply 0b000).Inv ∧ accepted (step (openGate.supply 0b000)) = true := by decide

/-- EveryOperationKeepsTheSampleHistory: a register in the middle of a press, bits at both ends of each clause. -/
theorem witness_sample_history :
    openGate.cfg.wf = true ∧ openGate.HoldsSamples { samples := List.replicate 11 false, advances := 0 }
      ∧ 12 ≤ openGate.cfg.debN ∧ openGate.cfg.debN < 13 := by
  have h : ∀ j, j < 16 → (j ≤ openGate.cfg.debN →
        openGate.block.deb.getLsbD j = sampleOrSeed openGate.cfg (List.replicate 11 false) j)
      ∧ (openGate.cfg.debN < j → openGate.block.deb.getLsbD j = true) := by decide
  have hn : openGate.cfg.debN = 12 := by decide
  exact ⟨by decide, ⟨fun j hj => (h j (by omega)).1 hj, fun j hj hj' => (h j hj').2 hj⟩, by omega, by omega⟩

/-- EveryOperationKeepsTheCadenceInvariant: a block not yet dispatched, with the cadence kept and with it broken, and a
dispatched one with a high pulse. -/
theorem witness_cadence_invariant :
    State.reset.CadenceInv { kept := true, pending := false } ∧ openGate.CadenceInv { kept := false, pending := true }
      ∧ closedGate.CadenceInv { kept := true, pending := false } ∧ (closedGate.block.pulses.get .r12Reset).a = true := by
  refine ⟨⟨rfl, by decide, by decide, fun _ => ⟨rfl, .inl rfl⟩⟩, ⟨rfl, by decide, by decide, fun h => by cases h⟩,
    ⟨rfl, by decide, by decide, fun _ => ⟨rfl, .inr ⟨by decide, rfl, fun i => ?_⟩⟩⟩, rfl⟩
  cases i <;> decide

/-- EveryStepKeepsLowPulsesAlike: two states alike but for a low pulse's assertion tick, and a step of one. -/
theorem witness_low_pulses_alike :
    (closedGate.supply 0b001).SameButLowStarts ((closedGate.supply 0b001).setBlock (closedGate.block.setPulses
        { noPulses with r12Reset := ⟨true, 5⟩, r34Set := ⟨false, 77⟩ }))
      ∧ accepted (step (closedGate.supply 0b001)) = true :=
  ⟨⟨rfl, fun i => by cases i <;> decide⟩, rfl⟩

/-- HistoryAndCadenceInvariantsHoldAtReset: well-formed parameters and the longest duration. -/
theorem witness_reset_parameters : Config.defaults.wf = true ∧ (11 : Byte) ≤ 11 := by decide

/-- AssemblerReadsItsOwnText: a line with the least count. -/
theorem witness_line : AsmLine.wellFormed (.hold true 1) = true ∧ AsmLine.wellFormed (.op .tick) = true := by decide

end Sys2Proof.Tests
end

section
/-! Proofs for the rules of 10_state: what each operation leaves unchanged (R29), and the independence of the
relay-pulse entries (R30). Both are proved of `effect`, the operation on the block, and carried to `exec` by `exec_eq`. -/

namespace Sys2Proof.Machine

/-! ### Operations write only the fields of their row (R29) -/

/-- Writing `TICK` leaves every other numbered field. -/
theorem Block.field_setTick_of_ne (k : Block) (v : Byte) {f : Field} (h : f ≠ .tick) :
    (k.setTick v).field f = k.field f := by
  cases f with
  | tick => exact absurd rfl h
  | lastTick | deb | band | prevBand | pflags | start | ind => rfl

/-- EXPIRE_ALL leaves every numbered field but `PFLAGS`. -/
theorem Block.field_expireAll_of_ne (c : Config) (now : Byte) (k : Block) {f : Field} (h : f ≠ .pflags) :
    (k.expireAll c now).field f = k.field f := by
  cases f with
  | pflags => exact absurd rfl h
  | start i => simp [Block.field, Block.expireAll_eq]
  | tick | lastTick | deb | band | prevBand | ind => rfl

/-- An operation leaves each numbered field that its row of R29's table does not list. -/
theorem effect_field_of_not_mayWrite (c : Config) (i : Instr) (k : Block) {f : Field}
    (h : mayWrite i k.gated f = false) : (effect c i k).field f = k.field f := by
  cases i with
  | iter b =>
    show (k.iter c b).field f = k.field f
    cases hg : k.gated with
    | false =>
      have hf : f ≠ .pflags := by simpa [mayWrite, hg] using h
      rw [iter_ungated c b k hg, Block.field_expireAll_of_ne c k.tick k hf]
    | true =>
      obtain rfl : f = .tick := by simpa [mayWrite, hg] using h
      simp [Block.field]
  | tick =>
    have hf : f ≠ .tick := by simpa [mayWrite] using h
    exact k.field_setTick_of_ne (k.tick + 1) hf
  | reset => simp [mayWrite] at h

/-- A flag that is high after an ungated ITER was high before it. -/
theorem flag_of_iter_ungated (c : Config) (b : Level) (k : Block) (p : PulseId) (hg : k.gated = false)
    (h : ((k.iter c b).pulses.get p).a = true) : (k.pulses.get p).a = true := by
  simp only [iter_ungated c b k hg, Block.expireAll_eq, Block.setPulses_pulses, Pulses.get_map, Pulse.expire_a,
    Bool.and_eq_true] at h
  exact h.1

/-- Settles O22: R29's table is a frame of every operation, by the cases of the operation and of the gate. -/
theorem operationsWriteOnlyTheirFields : Obligations.OperationsWriteOnlyTheirFields := by
  intro i s
  refine ⟨_, exec_eq i s, fun f hf => effect_field_of_not_mayWrite s.cfg i s.block hf, ?_, ?_, rfl, rfl, rfl⟩
  · rintro b p rfl hg ha
    exact flag_of_iter_ungated s.cfg b s.block p hg ha
  · rintro b rfl
    exact iter_tick s.cfg b s.block

/-! ### Pulse entries are independent (R30) -/

/-- A block that differs from another in the pulse file alone is the other with its pulse file. -/
theorem Block.eq_setPulses_iff (k l : Block) :
    l = k.setPulses l.pulses ↔
      l.tick = k.tick ∧ l.lastTick = k.lastTick ∧ l.deb = k.deb ∧ l.band = k.band ∧ l.prevBand = k.prevBand
        ∧ l.out15m = k.out15m ∧ l.out20m = k.out20m ∧ l.cal = k.cal := by
  cases k
  cases l
  simp [Block.setPulses]

section
variable (c : Config) (b : Level) (k : Block) (ps : Pulses)

/-- The trigger test and the band advance do not read the pulse file. -/
@[simp] theorem bandAfter_setPulses : bandAfter c b (k.setPulses ps) = bandAfter c b k := rfl

/-- Whether an ITER dispatches a row does not depend on the pulse file. -/
theorem dispatches_setPulses : dispatches c b (k.setPulses ps) ↔ dispatches c b k := Iff.rfl

/-- The indicators an ITER leaves do not depend on the pulse file. -/
theorem iter_setPulses_indicators :
    ((k.setPulses ps).iter c b).out15m = (k.iter c b).out15m
      ∧ ((k.setPulses ps).iter c b).out20m = (k.iter c b).out20m := by
  by_cases hd : dispatches c b k
  · obtain ⟨h15, h20, -⟩ := iter_dispatching c b k hd
    obtain ⟨h15', h20', -⟩ := iter_dispatching c b (k.setPulses ps) ((dispatches_setPulses c b k ps).2 hd)
    exact ⟨h15'.trans h15.symm, h20'.trans h20.symm⟩
  · obtain ⟨h15, h20, -⟩ := iter_quiet c b k hd
    obtain ⟨h15', h20', -⟩ := iter_quiet c b (k.setPulses ps) (mt (dispatches_setPulses c b k ps).1 hd)
    exact ⟨h15'.trans h15.symm, h20'.trans h20.symm⟩

/-- The entry an ITER leaves at index `i` depends on the entry at `i` alone of the pulse file. -/
theorem iter_setPulses_get {i : PulseId} (h : ps.get i = k.pulses.get i) :
    ((k.setPulses ps).iter c b).pulses.get i = (k.iter c b).pulses.get i := by
  by_cases hd : dispatches c b k
  · obtain ⟨-, -, hp⟩ := iter_dispatching c b k hd
    obtain ⟨-, -, hp'⟩ := iter_dispatching c b (k.setPulses ps) ((dispatches_setPulses c b k ps).2 hd)
    simp [hp, hp', h]
  · obtain ⟨-, -, hp⟩ := iter_quiet c b k hd
    obtain ⟨-, -, hp'⟩ := iter_quiet c b (k.setPulses ps) (mt (dispatches_setPulses c b k ps).1 hd)
    simp [hp, hp', h]

/-- The entry an operation leaves at index `i` depends on the entry at `i` alone of the pulse file. -/
theorem effect_setPulses_get (ins : Instr) {i : PulseId} (h : ps.get i = k.pulses.get i) :
    (effect c ins (k.setPulses ps)).pulses.get i = (effect c ins k).pulses.get i := by
  cases ins with
  | iter b => exact iter_setPulses_get c b k ps h
  | tick => exact h
  | reset => rfl

/-- No field but the pulse file depends, after an operation, on the pulse file before it. -/
theorem effect_setPulses_frame (ins : Instr) :
    effect c ins (k.setPulses ps) = (effect c ins k).setPulses (effect c ins (k.setPulses ps)).pulses := by
  cases ins with
  | iter b =>
    obtain ⟨h15, h20⟩ := iter_setPulses_indicators c b k ps
    exact (Block.eq_setPulses_iff (k.iter c b) ((k.setPulses ps).iter c b)).2
      ⟨(iter_tick c b _).trans (iter_tick c b k).symm, (iter_lastTick c b _).trans (iter_lastTick c b k).symm,
        (iter_deb c b _).trans (iter_deb c b k).symm, (iter_band c b _).trans (iter_band c b k).symm,
        (iter_prevBand c b _).trans (iter_prevBand c b k).symm, h15, h20, (iter_cal c b _).trans (iter_cal c b k).symm⟩
  | tick => rfl
  | reset => rfl

end

/-- Settles O46: an operation's effect on entry `i` and on the fields other than the pulses reads no other entry. -/
theorem pulseEntriesAreIndependent : Obligations.PulseEntriesAreIndependent := by
  intro ins s ps i h
  exact ⟨_, _, exec_eq ins s, exec_eq ins _, effect_setPulses_get s.cfg s.block ps ins h,
    congrArg s.setBlock (effect_setPulses_frame s.cfg s.block ps ins)⟩

end Sys2Proof.Machine
end

section
/-! Proofs for the rules of 30_encoding: the decoder by its `OP` field (R48, R50, R59), the codes of `BAND` and
`PREV_BAND` (R53), the output port word (R55) and the expansions of the pseudo-instructions (R58). -/

namespace Sys2Proof.Machine

/-! ### The decoder by its `OP` field (R48, R59) -/

section
variable (w : CommandWord)

theorem decode_of_opField_iter (h : opField w = 0b00) : decode w = .operation (.iter (bField w)) := by
  simp [decode, h]

theorem decode_of_opField_tick (h : opField w = 0b01) : decode w = .operation .tick := by
  simp [decode, h]

theorem decode_of_opField_reset (h : opField w = 0b10) : decode w = .operation .reset := by
  simp [decode, h]

/-- The three operations take the other three values of the field. -/
theorem opField_eq_reserved_iff : opField w = 0b11 ↔ decode w = .reserved := by
  unfold decode
  split_ifs with hIter hTick hReset
  · simp [hIter]
  · simp [hTick]
  · simp [hReset]
  · have hOp : opField w = 0b11 := by bv_omega
    simp [hOp]

end

/-- Settles O1: one lemma for each value of `OP`, and for each written-out word the lemma of its field. -/
theorem decodeFollowsOpField : Obligations.DecodeFollowsOpField :=
  ⟨fun w => ⟨decode_of_opField_iter w, decode_of_opField_tick w, decode_of_opField_reset w, opField_eq_reserved_iff w⟩,
    decode_of_opField_iter 0b000 rfl, decode_of_opField_iter 0b001 rfl,
    decode_of_opField_tick 0b010 rfl, decode_of_opField_tick 0b011 rfl,
    decode_of_opField_reset 0b100 rfl, decode_of_opField_reset 0b101 rfl,
    (opField_eq_reserved_iff 0b110).1 rfl, (opField_eq_reserved_iff 0b111).1 rfl⟩

/-! ### The ignored bit (R50) -/

/-- The later write of the stream stands. -/
@[simp] theorem State.setStream_setStream (s : State) (ws vs : List CommandWord) :
    (s.setStream vs).setStream ws = s.setStream ws := rfl

/-- A step on a word that decodes to an operation reads the word through that operation alone. -/
theorem step_setStream_of_decode (s : State) (ws : List CommandWord) {w : CommandWord} {i : Instr}
    (h : decode w = .operation i) :
    step (s.setStream (w :: ws)) =
      if s.refusalMark then .refused .runRefused
      else if s.cfg.wf then exec i (s.setStream ws)
      else .refused .configIllFormed := by
  have hf : (s.setStream (w :: ws)).fetch = some (w, ws) := (State.fetch_eq_some _ w ws).2 rfl
  simp only [step, hf, h, State.setStream_refusalMark, State.setStream_cfg, State.setStream_setStream]

/-- Two words of one operation give the same step. -/
theorem step_setStream_congr (s : State) (ws : List CommandWord) {w v : CommandWord} {i : Instr}
    (hw : decode w = .operation i) (hv : decode v = .operation i) :
    step (s.setStream (w :: ws)) = step (s.setStream (v :: ws)) :=
  (step_setStream_of_decode s ws hw).trans (step_setStream_of_decode s ws hv).symm

/-- Settles O3: both words of a pair decode to one operation, and a step sees no more of a word than that. -/
theorem ignoredBitSelectsTheSameOperation : Obligations.IgnoredBitSelectsTheSameOperation := by
  have tick0 := decode_of_opField_tick 0b010 rfl
  have tick1 := decode_of_opField_tick 0b011 rfl
  have reset0 := decode_of_opField_reset 0b100 rfl
  have reset1 := decode_of_opField_reset 0b101 rfl
  exact ⟨tick0, tick1, reset0, reset1,
    fun s ws => ⟨step_setStream_congr s ws tick0 tick1, step_setStream_congr s ws reset0 reset1⟩, rfl, rfl⟩

/-! ### The codes of `BAND` and `PREV_BAND` (R53) -/

/-- The sentinel's code is free: no band has it. -/
theorem Band.code_ne_sentinel (b : Band) : b.code ≠ PrevBand.code .sentinel := by
  cases b <;> decide

/-- Settles O5: the table of codes as the definitions write it, and that no band has the sentinel's code. -/
theorem bandAndSentinelCodes : Obligations.BandAndSentinelCodes :=
  ⟨rfl, rfl, rfl, fun _ => rfl, rfl, Band.code_ne_sentinel, rfl⟩

/-! ### The output port word (R55) -/

/-- The port word as bits written one after another, `CAL` first: the form whose bits the library's lemmas give. -/
theorem Block.port_eq_concat (k : Block) :
    k.port = ((((((BitVec.ofBool k.cal).concat k.out15m).concat k.out20m).concat k.pulses.r34Reset.a).concat
      k.pulses.r34Set.a).concat k.pulses.r12Reset.a).concat k.pulses.r12Set.a := rfl

/-- The low four bits of the port word are the relay-driver lines, by pulse number (R24, R54). -/
theorem Block.port_getLsbD_index (k : Block) (i : PulseId) : k.port.getLsbD i.index = (k.pulses.get i).a := by
  cases i with
  | r12Set | r12Reset | r34Set | r34Reset =>
    simp only [PulseId.index, Pulses.get, Block.port_eq_concat, BitVec.getLsbD_concat_succ,
      BitVec.getLsbD_concat_zero]

/-- The high three bits of the port word are the indicator lines and the calibration line. -/
theorem Block.port_getLsbD_indicators (k : Block) :
    k.port.getLsbD 4 = k.out20m ∧ k.port.getLsbD 5 = k.out15m ∧ k.port.getLsbD 6 = k.cal := by
  simp only [Block.port_eq_concat, BitVec.getLsbD_concat_succ, BitVec.getLsbD_concat_zero, BitVec.getLsbD_ofBool,
    decide_true, Bool.true_and, and_self]

/-- Settles O6: the relay-driver lines by pulse number, then the other three lines. -/
theorem portWordPacksTheLines : Obligations.PortWordPacksTheLines := fun k =>
  ⟨k.port_getLsbD_index .r12Set, k.port_getLsbD_index .r12Reset, k.port_getLsbD_index .r34Set,
    k.port_getLsbD_index .r34Reset, k.port_getLsbD_indicators⟩

/-! ### The pseudo-instructions (R58) -/

/-- The cadence of one level, held for `n` ticks, is `n` copies of the pair. -/
theorem tickIters_replicate (b : Level) (n : Nat) :
    tickIters (List.replicate n b) = (List.replicate n [Instr.tick, .iter b]).flatten :=
  List.flatMap_replicate

/-- Each sample of the cadence is two operations. -/
theorem length_tickIters (bs : List Level) : (tickIters bs).length = 2 * bs.length := by
  induction bs with
  | nil => rfl
  | cons b bs ih =>
    have hcons : tickIters (b :: bs) = .tick :: .iter b :: tickIters bs := rfl
    simp only [hcons, List.length_cons, ih]
    omega

/-- A line is one command word for each operation it expands to. -/
theorem length_assemble_singleton (l : AsmLine) : (assemble [l]).length = l.expand.length := by
  simp [assemble]

theorem length_assemble_hold (b : Level) (n : Nat) : (assemble [.hold b n]).length = 2 * n :=
  calc (assemble [.hold b n]).length
    _ = (tickIters (List.replicate n b)).length := length_assemble_singleton (.hold b n)
    _ = 2 * (List.replicate n b).length := length_tickIters _
    _ = 2 * n := by rw [List.length_replicate]

/-- Settles O53: HOLD by the cadence's two lemmas, the other rows of R58's table as `expand` writes them. -/
theorem pseudoInstructionExpansions : Obligations.PseudoInstructionExpansions :=
  ⟨fun _ => rfl, fun b n => ⟨tickIters_replicate b n, length_assemble_hold b n⟩, fun _ => rfl, fun _ => rfl,
    fun _ _ => rfl, fun _ => rfl, fun _ _ => ⟨rfl, rfl, rfl, rfl, rfl⟩⟩

end Sys2Proof.Machine
end

section
/-! Proofs for the rules of 40_step: TICK (R61), and what an ITER leaves, gated and ungated (R62, R66). The laws of ITER
are stated of the block by the gate; here they are brought to the two forms in which the rules give them. -/

namespace Sys2Proof.Machine

/-! ### TICK (R61) -/

/-- TICK answers the state with the counter one further. -/
theorem exec_tick (s : State) : exec .tick s = .next (s.setBlock (s.block.setTick (s.block.tick + 1))) := by
  rw [exec_eq, effect, countTick_eq]

/-- At its last value the counter wraps to 0. -/
theorem exec_tick_of_last (s : State) (h : s.block.tick = 255) :
    exec .tick s = .next (s.setBlock (s.block.setTick 0)) := by
  have hwrap : (255 : Byte) + 1 = 0 := rfl
  rw [exec_tick, h, hwrap]

/-- Settles O16: the decoder at the two words, the write of the counter, and its wrap. -/
theorem tickIncrementsTheCounter : Obligations.TickIncrementsTheCounter :=
  ⟨decode_of_opField_tick 0b010 rfl, decode_of_opField_tick 0b011 rfl, exec_tick, exec_tick_of_last⟩

/-! ### An ungated ITER (R66) -/

/-- With the gate closed an ITER, whatever its sample, is the expiry engine alone. -/
theorem exec_iter_of_not_gated (b : Level) (s : State) (h : s.block.gated = false) :
    exec (.iter b) s = .next (s.setBlock (s.block.expireAll s.cfg s.block.tick)) := by
  rw [exec_eq, effect, iter_ungated s.cfg b s.block h]

/-- The expiry engine leaves every assertion tick and clears the flags whose test holds. -/
theorem Block.expireAll_get (c : Config) (now : Byte) (k : Block) (i : PulseId) :
    ((k.expireAll c now).pulses.get i).s = (k.pulses.get i).s
      ∧ ((k.expireAll c now).pulses.get i).a = ((k.pulses.get i).a && !expired c (k.pulses.get i).s now) := by
  simp [Block.expireAll_eq]

/-- Settles O19: both samples give the expiry engine's state, which `expireAll_get` describes. -/
theorem ungatedIterOnlyExpires : Obligations.UngatedIterOnlyExpires := by
  intro b s hClosed
  have hg : s.block.gated = false := (not_gated_iff s.block).2 hClosed
  exact ⟨_, exec_iter_of_not_gated b s hg, exec_iter_of_not_gated (!b) s hg, rfl,
    s.block.expireAll_get s.cfg s.block.tick⟩

/-! ### A gated ITER (R62) -/

/-- The mapping table's indicator pair, each level by its own band. -/
theorem indicatorsFor_eq (b : Band) : indicatorsFor b = (decide (b = .m15), decide (b = .m20)) := by
  cases b <;> rfl

section
variable (c : Config) (b : Level) {k : Block} (hg : k.gated = true)
include hg

/-- The register a gated ITER leaves. -/
theorem iter_deb_of_gated : (k.iter c b).deb = debShift c b k.deb := by simp [iter_deb, hg]

/-- The band advances where the register the ITER leaves is the trigger pattern. -/
theorem iter_band_of_gated :
    (k.iter c b).band = if (k.iter c b).deb = c.debTrigger then k.band.next else k.band := by
  simp [iter_band, iter_deb_of_gated c b hg, bandAfter, hg]

/-- The calibration line is inverted. -/
theorem iter_cal_of_gated : (k.iter c b).cal = !k.cal := by simp [iter_cal, hg]

/-- After a gated ITER the current band is the last dispatched one. -/
theorem iter_prevBand_of_gated : (k.iter c b).prevBand = .dispatched (k.iter c b).band := by
  simp [iter_prevBand, iter_band, hg]

/-- A gated ITER dispatches a row exactly where the band it leaves is not the last dispatched one. -/
theorem dispatches_iff_of_gated : dispatches c b k ↔ k.prevBand ≠ .dispatched (k.iter c b).band := by
  simp [dispatches, iter_band, hg]

/-- A gated ITER that leaves the last dispatched band leaves the indicators and only tests the pulses. -/
theorem iter_of_band_unchanged (hp : k.prevBand = .dispatched (k.iter c b).band) :
    (k.iter c b).out15m = k.out15m ∧ (k.iter c b).out20m = k.out20m
      ∧ ∀ i, (k.iter c b).pulses.get i = (k.pulses.get i).expire c k.tick :=
  iter_quiet c b k fun hd => (dispatches_iff_of_gated c b hg).1 hd hp

/-- A gated ITER that leaves another band shows it, arms its pulses and tests every pulse as the row left it. -/
theorem iter_of_band_changed (hp : k.prevBand ≠ .dispatched (k.iter c b).band) :
    ((k.iter c b).out15m, (k.iter c b).out20m) = indicatorsFor (k.iter c b).band
      ∧ ∀ i, (k.iter c b).pulses.get i = Pulse.expire c k.tick
          (if armedBy (k.iter c b).band i then { a := true, s := k.tick } else k.pulses.get i) := by
  have hband : (k.iter c b).band = bandAfter c b k := by simp [iter_band, hg]
  obtain ⟨h15, h20, hpulse⟩ := iter_dispatching c b k ((dispatches_iff_of_gated c b hg).2 hp)
  rw [hband, indicatorsFor_eq, h15, h20]
  exact ⟨rfl, hpulse⟩

end

/-- Settles O18: the gated ITER field by field, the ungated one as the expiry engine, and the first ITER from reset by
evaluation. -/
theorem iterResultFieldByField : Obligations.IterResultFieldByField := by
  refine ⟨decode_of_opField_iter 0b000 rfl, decode_of_opField_iter 0b001 rfl, fun b s hOpen => ?_,
    fun b s hClosed => exec_iter_of_not_gated b s ((not_gated_iff s.block).2 hClosed),
    ⟨_, exec_eq (.iter true) State.reset, by decide, by decide⟩⟩
  have hg : s.block.gated = true := (gated_iff s.block).2 hOpen
  exact ⟨_, exec_eq (.iter b) s, rfl, rfl, rfl, iter_tick s.cfg b s.block, iter_lastTick s.cfg b s.block,
    iter_deb_of_gated s.cfg b hg, iter_band_of_gated s.cfg b hg, iter_cal_of_gated s.cfg b hg,
    iter_prevBand_of_gated s.cfg b hg, iter_of_band_unchanged s.cfg b hg, iter_of_band_changed s.cfg b hg⟩

end Sys2Proof.Machine
end

section
/-! Proofs for the rules of 41_debounce_band about one operation: the debounce shift (R71), the trigger test and the band
advance (R73, R74), and the calibration toggle (R75). What a gated ITER leaves in each field is taken from the proofs for
40_step. -/

namespace Sys2Proof.Machine

/-! ### The debounce shift (R71) -/

section
variable (c : Config) (b : Level) (v : DebWord)

/-- Bit 0 after a shift: no old bit reaches it. -/
theorem debShift_getLsbD_zero : (debShift c b v).getLsbD 0 = (b || c.debMask.getLsbD 0) := by
  simp only [debShift, BitVec.getLsbD_or, BitVec.getLsbD_shiftLeft, sample_bit]
  simp

/-- Every other bit after a shift: the sample does not reach it. -/
theorem debShift_getLsbD_succ {j : Nat} (hj : j + 1 < 16) :
    (debShift c b v).getLsbD (j + 1) = (v.getLsbD j || c.debMask.getLsbD (j + 1)) := by
  simp only [debShift, BitVec.getLsbD_or, BitVec.getLsbD_shiftLeft, sample_bit]
  simp [hj]

end

/-- DEB_SHIFT puts the shifted word in `DEB`. -/
@[simp] theorem Block.debShift_deb (c : Config) (b : Level) (k : Block) :
    (k.debShift c b).deb = Machine.debShift c b k.deb := rfl

/-- DEB_SHIFT writes `DEB` and nothing else. -/
theorem Block.debShift_frame (c : Config) (b : Level) (k : Block) :
    k.debShift c b = { k with deb := (k.debShift c b).deb } := rfl

/-- Settles O24: bit 0 and the bits above it have a lemma each; the two examples are evaluated. -/
theorem debounceShiftBitByBit : Obligations.DebounceShiftBitByBit := by
  refine ⟨fun c b k i hi => ?_, Block.debShift_frame, by decide, by decide⟩
  rw [Block.debShift_deb]
  cases i with
  | zero => exact debShift_getLsbD_zero c b k.deb
  | succ j => exact debShift_getLsbD_succ c b k.deb hi

/-! ### The trigger test and the band advance (R73, R74) -/

/-- BAND_ADVANCE writes `BAND` and nothing else. -/
theorem Block.bandAdvance_frame (k : Block) : k.bandAdvance = { k with band := k.band.next } := rfl

/-- Settles O25: the band a gated ITER leaves is `iter_band_of_gated`; the cycle of bands is `Band.next`'s table. -/
theorem bandAdvancesExactlyOnTheTrigger : Obligations.BandAdvancesExactlyOnTheTrigger :=
  ⟨fun b s hg => ⟨_, exec_eq (.iter b) s, iter_band_of_gated s.cfg b hg⟩, rfl, rfl, rfl, Block.bandAdvance_frame⟩

/-! ### The calibration toggle (R75) -/

/-- Settles O26: `iter_cal` at the state's block. -/
theorem calibrationTogglesOncePerGatedIter : Obligations.CalibrationTogglesOncePerGatedIter :=
  fun b s => ⟨_, exec_eq (.iter b) s, iter_cal s.cfg b s.block⟩

end Sys2Proof.Machine
end

section
/-! Proofs for the rules of 42_dispatch about one dispatch: the mapping table (R86 to R91), and that the dispatcher only
asserts (R92). What a row leaves in each pulse entry is `row_pulse`. -/

namespace Sys2Proof.Machine

/-! ### The dispatcher only asserts (R92) -/

/-- A dispatch writes an entry where the band has changed and its row arms that entry, and nowhere else. -/
theorem Block.dispatch_pulse (now : Byte) (k : Block) (i : PulseId) :
    (k.dispatch now).pulses.get i =
      if k.prevBand ≠ .dispatched k.band ∧ armedBy k.band i = true then { a := true, s := now }
      else k.pulses.get i := by
  by_cases h : k.prevBand = .dispatched k.band
  · simp [k.dispatch_same now h, h]
  · simp [k.dispatch_changed now h, row_pulse, h]

/-- No row arms both members of a pair. -/
theorem armedBy_partner_of_armedBy {b : Band} {i : PulseId} (h : armedBy b i = true) :
    armedBy b i.partner = false := by
  revert h
  cases b <;> cases i <;> decide

/-- An entry that the band's row does not arm is unchanged. -/
theorem Block.dispatch_pulse_of_not_armed (now : Byte) (k : Block) {i : PulseId} (h : armedBy k.band i = false) :
    (k.dispatch now).pulses.get i = k.pulses.get i := by
  simp [dispatch_pulse, h]

/-- A high flag stays high: the only write of an entry is to a high flag. -/
theorem Block.dispatch_flag_of_high (now : Byte) (k : Block) {i : PulseId} (h : (k.pulses.get i).a = true) :
    ((k.dispatch now).pulses.get i).a = true := by
  rw [dispatch_pulse]
  split_ifs
  · rfl
  · exact h

/-- Settles O33: the partner of an armed entry is itself not armed, and so unchanged. -/
theorem dispatcherOnlyAsserts : Obligations.DispatcherOnlyAsserts := fun now k _ =>
  ⟨k.dispatch_flag_of_high now, k.dispatch_pulse_of_not_armed now,
    fun h => k.dispatch_pulse_of_not_armed now (armedBy_partner_of_armedBy h)⟩

/-! ### The mapping table (R86 to R91) -/

/-- Where the current band is `b` and not the last dispatched one, a dispatch is `b`'s row and the record of `b`. -/
theorem Block.dispatch_of_band (now : Byte) (k : Block) {b : Band} (hb : k.band = b)
    (hp : k.prevBand ≠ .dispatched b) : k.dispatch now = (k.row b now).setPrevBand (.dispatched b) := by
  subst hb
  exact k.dispatch_changed now hp

/-- Settles O32: an unchanged band by `dispatch_same`; each changed band by its row, which is the table's as written. -/
theorem dispatchFollowsTheMappingTable : Obligations.DispatchFollowsTheMappingTable := fun now k =>
  ⟨k.dispatch_same now, k.dispatch_of_band now (b := .m40), k.dispatch_of_band now (b := .m20),
    k.dispatch_of_band now (b := .m15)⟩

end Sys2Proof.Machine
end

section
/-! Proofs for the rules of 43_pulse about one test: the elapsed test by its branches over the integers (R98), and the
expiry engine (R99). The test's words are compared as naturals; each branch is one equation of `expired`. -/

namespace Sys2Proof.Machine

/-! ### The elapsed test (R98) -/

/-- The parameter `delta` does not wrap (R7). -/
@[simp] theorem toNat_delta (c : Config) : (delta c).toNat = 255 - c.pulseD.toNat := by
  have h : c.pulseD ≤ wrapReset := Nat.le_of_lt_succ c.pulseD.isLt
  exact BitVec.toNat_sub_of_le h

/-- A tick is at least `delta`, compared as naturals. -/
theorem delta_le_iff (c : Config) (t : Byte) : delta c ≤ t ↔ 255 - c.pulseD.toNat ≤ t.toNat := by
  rw [BitVec.le_def, toNat_delta]

/-- The ticks from `start` to `now`, counted modulo 256. -/
theorem toNat_elapsed (start now : Byte) : (now - start).toNat = (now.toNat + 256 - start.toNat) % 256 := by
  rw [BitVec.toNat_sub]
  omega

/-- The elapsed count of the branch that adds `WRAP_RESET`, modulo 256. -/
theorem toNat_elapsed_add_wrapReset (start now : Byte) :
    (now - start + wrapReset).toNat = (now.toNat + 256 - start.toNat + 255) % 256 := by
  have hw : wrapReset.toNat = 255 := rfl
  rw [BitVec.toNat_add, toNat_elapsed, hw, Nat.mod_add_mod]

section
variable (c : Config) {start now : Byte}

/-- Branch A: with no wrap seen yet a pulse armed at `delta` or later is pending. -/
theorem expired_of_pending (hs : delta c ≤ start) (hn : delta c ≤ now) : expired c start now = false := by
  simp [expired, hs, hn]

/-- Branch B: after the wrap a pulse armed at `delta` or later is tested with `WRAP_RESET` added. -/
theorem expired_of_wrapped (hs : delta c ≤ start) (hn : ¬ delta c ≤ now) :
    expired c start now = decide (c.pulseD ≤ now - start + wrapReset) := by
  simp [expired, hs, hn]

/-- Branch C: a pulse armed before `delta` is tested on the wrapping difference. -/
theorem expired_of_start_lt_delta (hs : ¬ delta c ≤ start) :
    expired c start now = decide (c.pulseD ≤ now - start) := by
  simp [expired, hs]

end

/-- Settles O39: the three equations of `expired`, with their words compared as naturals; the examples by evaluation. -/
theorem elapsedTestByItsThreeBranches : Obligations.ElapsedTestByItsThreeBranches := by
  refine ⟨fun c start now => ⟨fun hs hn => ?_, fun hs hn => ?_, fun hs => ?_⟩, by decide, by decide⟩
  · exact expired_of_pending c ((delta_le_iff c start).2 hs) ((delta_le_iff c now).2 hn)
  · have hnow : ¬ delta c ≤ now := by rwa [delta_le_iff, Nat.not_le]
    rw [expired_of_wrapped c ((delta_le_iff c start).2 hs) hnow, decide_eq_true_iff, BitVec.le_def,
      toNat_elapsed_add_wrapReset]
  · have hstart : ¬ delta c ≤ start := by rwa [delta_le_iff, Nat.not_le]
    rw [expired_of_start_lt_delta c hstart, decide_eq_true_iff, BitVec.le_def, toNat_elapsed]

/-! ### The expiry engine (R99) -/

/-- A low flag stays low. -/
theorem Block.expireAll_flag_of_low (c : Config) (now : Byte) (k : Block) {i : PulseId}
    (h : (k.pulses.get i).a = false) : ((k.expireAll c now).pulses.get i).a = false := by
  rw [(k.expireAll_get c now i).2, h, Bool.false_and]

/-- The pulse file is the only field the engine writes. -/
theorem Block.expireAll_frame (c : Config) (now : Byte) (k : Block) :
    k.expireAll c now = { k with pulses := (k.expireAll c now).pulses } := rfl

/-- Settles O42: each entry by `expireAll_get`, the rest of the block by the frame; the examples by evaluation. -/
theorem expiryEngineClearsExpiredPulses : Obligations.ExpiryEngineClearsExpiredPulses := by
  refine ⟨fun c now k i => ?_, by decide, by decide⟩
  obtain ⟨hstart, hflag⟩ := k.expireAll_get c now i
  exact ⟨hstart, hflag, k.expireAll_flag_of_low c now, k.expireAll_frame c now⟩

end Sys2Proof.Machine
end

section
/-! Proofs for the rules of 70_reset_and_hazards: what RESET writes (R128), with the image and the output lines of the
reset block. -/

namespace Sys2Proof.Machine

/-- RESET answers the state with the reset block of its own parameters. -/
theorem exec_reset (s : State) : exec .reset s = .next (s.setBlock (Block.atReset s.cfg)) := by
  rw [exec_eq, effect, resetAll_eq]

/-! ### The reset block's image and output lines (R32) -/

section
variable (c : Config)

/-- Every pulse is low, with assertion tick 0. -/
@[simp] theorem Block.atReset_pulses :
    (Block.atReset c).pulses =
      { r12Set := ⟨false, 0⟩, r12Reset := ⟨false, 0⟩, r34Set := ⟨false, 0⟩, r34Reset := ⟨false, 0⟩ } := rfl

theorem Block.pflags_atReset : (Block.atReset c).pflags = 0 := by
  simp [pflags]

theorem Block.ind_atReset : (Block.atReset c).ind = 0 := by
  simp [ind]

/-- All seven output lines are low, under any parameters. -/
theorem Block.port_atReset : (Block.atReset c).port = 0 := by
  simp [port]

/-- Only the two bytes of `DEB` depend on the parameters. -/
theorem Block.image_atReset :
    (Block.atReset c).image = [0x00, 0xFF, c.debSeed.extractLsb' 0 8, c.debSeed.extractLsb' 8 8, 0x00, 0x03, 0x00,
      0x00, 0x00, 0x00, 0x00, 0x00] := by
  have hband : Band.m40.code.setWidth 8 = (0x00 : Byte) := by decide
  have hprev : PrevBand.sentinel.code.setWidth 8 = (0x03 : Byte) := by decide
  simp [image, pflags_atReset, ind_atReset, hband, hprev]

end

/-- With the default seed both bytes of `DEB` are `0xFF`. -/
theorem Block.image_atReset_of_debSeed {c : Config} (h : c.debSeed = 0xFFFF) :
    (Block.atReset c).image = [0x00, 0xFF, 0xFF, 0xFF, 0x00, 0x03, 0x00, 0x00, 0x00, 0x00, 0x00, 0x00] := by
  have hlow : (0xFFFF : DebWord).extractLsb' 0 8 = 0xFF := by decide
  have hhigh : (0xFFFF : DebWord).extractLsb' 8 8 = 0xFF := by decide
  rw [image_atReset, h, hlow, hhigh]

/-- Settles O49: the decoder at the two words, `exec_reset`, and the image and the port of the reset block it answers. -/
theorem resetWritesEveryField : Obligations.ResetWritesEveryField :=
  ⟨decode_of_opField_reset 0b100 rfl, decode_of_opField_reset 0b101 rfl, exec_reset,
    fun s hseed => ⟨_, exec_reset s, Block.image_atReset_of_debSeed hseed, Block.port_atReset s.cfg, rfl⟩⟩

end Sys2Proof.Machine
end

section
/-! The operations as functions of the state and of the block, in the forms the later proofs use: the state an operation
answers, the induction over a list of operations with its history, and what an ITER does to one pulse and to the
indicators, whether or not it dispatches. -/

namespace Sys2Proof.Machine

/-! ### The state an operation answers -/

/-- The state an operation answers. -/
def State.after (i : Instr) (s : State) : State := s.setBlock (effect s.cfg i s.block)

theorem exec_eq_after (i : Instr) (s : State) : exec i s = .next (s.after i) := exec_eq i s

@[simp] theorem State.after_cfg (i : Instr) (s : State) : (s.after i).cfg = s.cfg := rfl

@[simp] theorem State.after_block (i : Instr) (s : State) : (s.after i).block = effect s.cfg i s.block := rfl

@[simp] theorem effect_iter (c : Config) (b : Level) (k : Block) : effect c (.iter b) k = k.iter c b := rfl

@[simp] theorem effect_tick (c : Config) (k : Block) : effect c .tick k = k.setTick (k.tick + 1) := rfl

@[simp] theorem effect_reset (c : Config) (k : Block) : effect c .reset k = Block.atReset c := rfl

/-- Writing the block that is there changes nothing. -/
@[simp] theorem State.setBlock_self (s : State) : s.setBlock s.block = s := rfl

/-- Writing the `TICK` that is there changes nothing. -/
@[simp] theorem Block.setTick_self (k : Block) : k.setTick k.tick = k := rfl

/-- An operation without effect on the block answers the state it found. -/
theorem State.after_eq_self {i : Instr} {s : State} (h : effect s.cfg i s.block = s.block) : s.after i = s := by
  rw [after, h, setBlock_self]

/-- A list of operations begins with its first one. -/
theorem execAll_cons (i : Instr) (is : List Instr) (s : State) : execAll (i :: is) s = execAll is (s.after i) := by
  simp [execAll, exec_eq_after]

@[simp] theorem execAll_nil (s : State) : execAll [] s = .next s := rfl

/-- The operations of one list and then those of another, whatever state the first list leaves. -/
theorem execAll_append_eq (is js : List Instr) (s : State) :
    execAll (is ++ js) s = execAll js (s.setBlock (is.foldl (fun k i => effect s.cfg i k) s.block)) :=
  execAll_append is js s _ (execAll_eq is s)

/-- A relation of a state and its history that holds at the start and that every operation of a list keeps holds after
the list. -/
theorem execAll_history_induction {P : State → History → Prop} (is : List Instr) (s : State) (h : History) (h0 : P s h)
    (hstep : ∀ i ∈ is, ∀ s h, P s h → P (s.after i) (h.note i s)) :
    ∃ t, execAll is s = .next t ∧ P t (historyAfter is s h) := by
  induction is generalizing s h with
  | nil => exact ⟨s, rfl, h0⟩
  | cons i is ih =>
    rw [execAll_cons, historyAfter_cons]
    exact ih (s.after i) (h.note i s) (hstep i List.mem_cons_self s h h0)
      fun j hj => hstep j (List.mem_cons_of_mem i hj)

/-! ### The history after one operation -/

section
variable (s : State) (h : History)

@[simp] theorem History.fresh_samples : History.fresh.samples = [] := rfl

/-- An ungated ITER is not noted. -/
theorem History.note_iter_of_not_gated (b : Level) (hg : s.block.gated = false) : h.note (.iter b) s = h := by
  simp [note, hg]

/-- A gated ITER is noted as a sample, and as an advance where its shifted register is the trigger pattern. -/
theorem History.note_iter_of_gated (b : Level) (hg : s.block.gated = true) :
    h.note (.iter b) s =
      { samples := b :: h.samples
        advances := if debShift s.cfg b s.block.deb = s.cfg.debTrigger then h.advances + 1 else h.advances } := by
  simp [note, hg]

end

/-! ### What an ITER does to one pulse -/

/-- The test leaves a low pulse. -/
theorem Pulse.expire_of_low (c : Config) (now : Byte) {p : Pulse} (ha : p.a = false) : p.expire c now = p := by
  cases p
  simp_all [Pulse.expire]

/-- The test leaves a pulse for which it does not hold. -/
theorem Pulse.expire_of_not_expired (c : Config) (now : Byte) {p : Pulse} (h : expired c p.s now = false) :
    p.expire c now = p := by
  simp [Pulse.expire, h]

section
variable (c : Config) (b : Level) (k : Block)

/-- The ITER dispatches a row, and the row arms pulse `i`. -/
def rearms (i : PulseId) : Bool :=
  k.gated && k.prevBand != .dispatched (bandAfter c b k) && armedBy (bandAfter c b k) i

theorem rearms_eq_of_dispatches (hd : dispatches c b k) (i : PulseId) : rearms c b k i = armedBy (bandAfter c b k) i := by
  obtain ⟨hg, hp⟩ := hd
  simp [rearms, hg, hp]

theorem rearms_eq_false_of_not_dispatches (hd : ¬ dispatches c b k) (i : PulseId) : rearms c b k i = false := by
  by_contra hr
  simp only [rearms, Bool.not_eq_false, Bool.and_eq_true, bne_iff_ne] at hr
  exact hd hr.1

theorem dispatches_of_rearms {i : PulseId} (hr : rearms c b k i = true) : dispatches c b k := by
  by_contra hd
  simp [rearms_eq_false_of_not_dispatches c b k hd] at hr

/-- Every entry after an ITER is the expiry test, at the ITER's tick, of the entry as the dispatcher left it. -/
theorem iter_pulse (i : PulseId) :
    (k.iter c b).pulses.get i = Pulse.expire c k.tick (if rearms c b k i then { a := true, s := k.tick }
      else k.pulses.get i) := by
  by_cases hd : dispatches c b k
  · obtain ⟨-, -, hp⟩ := iter_dispatching c b k hd
    rw [hp, rearms_eq_of_dispatches c b k hd]
  · obtain ⟨-, -, hp⟩ := iter_quiet c b k hd
    simp [hp, rearms_eq_false_of_not_dispatches c b k hd]

/-- A pulse that the ITER arms carries its tick, and is high where the test does not hold at once. -/
theorem iter_pulse_of_rearms {i : PulseId} (hr : rearms c b k i = true) :
    (k.iter c b).pulses.get i = { a := !expired c k.tick k.tick, s := k.tick } := by
  rw [iter_pulse, hr]
  rfl

/-- A pulse that the ITER does not arm is the pulse before, tested. -/
theorem iter_pulse_of_not_rearms {i : PulseId} (hr : rearms c b k i = false) :
    (k.iter c b).pulses.get i = (k.pulses.get i).expire c k.tick := by
  simp [iter_pulse, hr]

/-- A pulse that is high after an ITER was not expired, and either the ITER armed it or it was high with that start. -/
theorem high_after_iter {i : PulseId} (ha : ((k.iter c b).pulses.get i).a = true) :
    expired c ((k.iter c b).pulses.get i).s k.tick = false
      ∧ (rearms c b k i = true ∧ ((k.iter c b).pulses.get i).s = k.tick
        ∨ (k.pulses.get i).a = true ∧ ((k.iter c b).pulses.get i).s = (k.pulses.get i).s) := by
  cases hr : rearms c b k i with
  | true =>
    rw [iter_pulse_of_rearms c b k hr] at ha ⊢
    exact ⟨by simpa using ha, .inl ⟨rfl, rfl⟩⟩
  | false =>
    rw [iter_pulse_of_not_rearms c b k hr] at ha ⊢
    simp only [Pulse.expire_a, Bool.and_eq_true, Bool.not_eq_true'] at ha
    exact ⟨ha.2, .inr ⟨ha.1, rfl⟩⟩

/-! ### What a gated ITER shows -/

/-- From a block whose band is shown if it was dispatched, a gated ITER dispatches and shows the band it leaves. -/
theorem iter_shown_of_gated (hg : k.gated = true) (hk : k.prevBand = .sentinel ∨ k.shown) : (k.iter c b).shown := by
  have hprev := iter_prevBand_of_gated c b hg
  by_cases hp : k.prevBand = .dispatched (k.iter c b).band
  · obtain ⟨h15, h20, -⟩ := iter_of_band_unchanged c b hg hp
    obtain hs | ⟨hband, hind⟩ := hk
    · rw [hs] at hp
      cases hp
    · have hsame : k.band = (k.iter c b).band := by simpa [hband] using hp
      exact ⟨hprev, by rw [h15, h20, hind, hsame]⟩
  · exact ⟨hprev, (iter_of_band_changed c b hg hp).1⟩

/-- An ungated ITER leaves the band shown as it was. -/
theorem iter_shown_of_not_gated (hg : k.gated = false) (hk : k.shown) : (k.iter c b).shown := by
  rw [iter_ungated c b k hg]
  exact hk

/-- Where every high pulse stays unexpired an ungated ITER changes nothing. -/
theorem iter_eq_self (hg : k.gated = false)
    (hp : ∀ i, (k.pulses.get i).a = true → expired c (k.pulses.get i).s k.tick = false) : k.iter c b = k := by
  have hget : ∀ i, (k.pulses.map (Pulse.expire c k.tick)).get i = k.pulses.get i := by
    intro i
    cases ha : (k.pulses.get i).a with
    | true => rw [Pulses.get_map, Pulse.expire_of_not_expired c k.tick (hp i ha)]
    | false => rw [Pulses.get_map, Pulse.expire_of_low c k.tick ha]
  rw [iter_ungated c b k hg, Block.expireAll_eq, Pulses.ext_get hget]
  rfl

end

end Sys2Proof.Machine
end

section
/-! The parameters and the debounce register (00_scope R5, R6; 41_debounce_band R71, R73): well-formed parameters bit by
bit, the lowest set bit, and the two facts through which every count of samples goes: a shift by a released sample puts the
lowest set bit at 0, by a pressed one a place higher, up to the mask; and the register is the trigger pattern exactly where
its lowest set bit is bit `DEB_N`. -/

namespace Sys2Proof

/-! ### The lowest set bit -/

section
variable (v : DebWord)

/-- The index is that of a set bit with none below it, or the width where no bit is set. -/
theorem lowestSetBit_spec :
    (∀ j, j < lowestSetBit v → v.getLsbD j = false)
      ∧ (lowestSetBit v < 16 ∧ v.getLsbD (lowestSetBit v) = true ∨ lowestSetBit v = 16) := by
  cases h : (List.range 16).find? fun i => v.getLsbD i with
  | none =>
    have hl : lowestSetBit v = 16 := by simp [lowestSetBit, debWidth, h]
    rw [List.find?_range_eq_none] at h
    exact ⟨fun j hj => by simpa using h j (hl ▸ hj), .inr hl⟩
  | some n =>
    have hl : lowestSetBit v = n := by simp [lowestSetBit, debWidth, h]
    rw [List.find?_range_eq_some] at h
    obtain ⟨hset, hmem, hbelow⟩ := h
    rw [hl]
    exact ⟨fun j hj => by simpa using hbelow j hj, .inl ⟨List.mem_range.1 hmem, hset⟩⟩

theorem getLsbD_of_lt_lowestSetBit {j : Nat} (h : j < lowestSetBit v) : v.getLsbD j = false :=
  (lowestSetBit_spec v).1 j h

theorem lowestSetBit_le_of_getLsbD {j : Nat} (h : v.getLsbD j = true) : lowestSetBit v ≤ j := by
  by_contra hlt
  simp [getLsbD_of_lt_lowestSetBit v (Nat.lt_of_not_le hlt)] at h

theorem getLsbD_lowestSetBit (h : lowestSetBit v < 16) : v.getLsbD (lowestSetBit v) = true := by
  obtain ⟨-, hset⟩ | hnone := (lowestSetBit_spec v).2
  · exact hset
  · omega

theorem lowestSetBit_eq_zero (h : v.getLsbD 0 = true) : lowestSetBit v = 0 :=
  Nat.le_zero.1 (lowestSetBit_le_of_getLsbD v h)

end

/-! ### Well-formed parameters bit by bit (R5, R6) -/

theorem getLsbD_allOnes_shiftLeft (n : Nat) {i : Nat} (hi : i < 16) :
    (BitVec.allOnes 16 <<< n).getLsbD i = decide (n ≤ i) := by
  rw [BitVec.getLsbD_shiftLeft, BitVec.getLsbD_allOnes, Bool.eq_iff_iff]
  simp only [Bool.and_eq_true, Bool.not_eq_true', decide_eq_true_iff, decide_eq_false_iff_not]
  omega

/-- A word is the ones from bit `n` up exactly where its bits are. -/
theorem eq_allOnes_shiftLeft_iff (v : DebWord) (n : Nat) :
    v = BitVec.allOnes 16 <<< n ↔ ∀ i, i < 16 → v.getLsbD i = decide (n ≤ i) := by
  constructor
  · rintro rfl i hi
    exact getLsbD_allOnes_shiftLeft n hi
  · exact fun h => BitVec.eq_of_getLsbD_eq fun i hi => (h i hi).trans (getLsbD_allOnes_shiftLeft n hi).symm

/-- A word has every bit of another exactly where no bit of it is missing. -/
theorem and_eq_right_iff (v m : DebWord) :
    v &&& m = m ↔ ∀ i, i < 16 → m.getLsbD i = true → v.getLsbD i = true := by
  constructor
  · intro h i _ hm
    rw [← h, BitVec.getLsbD_and, Bool.and_eq_true] at hm
    exact hm.1
  · intro h
    refine BitVec.eq_of_getLsbD_eq fun i hi => ?_
    rw [BitVec.getLsbD_and]
    cases hm : m.getLsbD i with
    | false => simp
    | true => simp [h i hi hm]

/-- A word has all the ones from bit `n` up exactly where its bits there are set. -/
theorem and_allOnes_shiftLeft_iff (v : DebWord) (n : Nat) :
    v &&& (BitVec.allOnes 16 <<< n) = BitVec.allOnes 16 <<< n ↔ ∀ i, n ≤ i → i < 16 → v.getLsbD i = true := by
  rw [and_eq_right_iff]
  constructor
  · intro h i hn hi
    exact h i hi (by rw [getLsbD_allOnes_shiftLeft n hi, decide_eq_true hn])
  · intro h i hi hm
    rw [getLsbD_allOnes_shiftLeft n hi, decide_eq_true_iff] at hm
    exact h i hm hi

theorem Config.runLengthInRange_iff (c : Config) : c.runLengthInRange = true ↔ 1 ≤ c.debN ∧ c.debN ≤ 14 := by
  rw [runLengthInRange, Bool.and_eq_true, decide_eq_true_iff, decide_eq_true_iff]
  rfl

theorem Config.maskShape_iff (c : Config) :
    c.maskShape = true ↔ ∀ i, i < 16 → c.debMask.getLsbD i = decide (c.debN < i) := by
  rw [maskShape, beq_iff_eq, onesAboveN, eq_allOnes_shiftLeft_iff]
  rfl

theorem Config.triggerShape_iff (c : Config) :
    c.triggerShape = true ↔ c.debTrigger = c.debMask ||| ((1 : DebWord) <<< c.debN) := by
  rw [triggerShape, beq_iff_eq]

theorem Config.seedShape_iff (c : Config) :
    c.seedShape = true ↔ ∀ i, c.debN < i → i < 16 → c.debSeed.getLsbD i = true := by
  rw [seedShape, beq_iff_eq, onesAboveN, and_allOnes_shiftLeft_iff]
  rfl

theorem Config.seedRange_iff (c : Config) :
    c.seedRange = true ↔ ∀ i, 13 ≤ i → i < 16 → c.debSeed.getLsbD i = true := by
  have hrange : (0xE000 : DebWord) = BitVec.allOnes 16 <<< 13 := by decide
  rw [seedRange, beq_iff_eq, hrange, and_allOnes_shiftLeft_iff]

/-- The check of the parameters is R6's four conditions and R5's range, bit by bit. -/
theorem Config.wf_iff (c : Config) :
    c.wf = true ↔
      (1 ≤ c.debN ∧ c.debN ≤ 14
        ∧ (∀ i, i < 16 → c.debMask.getLsbD i = decide (c.debN < i))
        ∧ c.debTrigger = c.debMask ||| ((1 : DebWord) <<< c.debN)
        ∧ (∀ i, c.debN < i → i < 16 → c.debSeed.getLsbD i = true)
        ∧ (∀ i, 13 ≤ i → i < 16 → c.debSeed.getLsbD i = true)) := by
  simp only [wf, Bool.and_eq_true, runLengthInRange_iff, maskShape_iff, triggerShape_iff, seedShape_iff, seedRange_iff,
    and_assoc]

section
variable {c : Config} (hc : c.wf = true)
include hc

theorem Config.one_le_debN : 1 ≤ c.debN := (c.wf_iff.1 hc).1

theorem Config.debN_le : c.debN ≤ 14 := (c.wf_iff.1 hc).2.1

theorem Config.debMask_getLsbD {i : Nat} (hi : i < 16) : c.debMask.getLsbD i = decide (c.debN < i) := by
  obtain ⟨-, -, hmask, -⟩ := c.wf_iff.1 hc
  exact hmask i hi

theorem Config.debSeed_getLsbD {i : Nat} (hn : c.debN < i) (hi : i < 16) : c.debSeed.getLsbD i = true := by
  obtain ⟨-, -, -, -, hseed, -⟩ := c.wf_iff.1 hc
  exact hseed i hn hi

/-- The trigger pattern is the ones from bit `DEB_N` up. -/
theorem Config.debTrigger_getLsbD {i : Nat} (hi : i < 16) : c.debTrigger.getLsbD i = decide (c.debN ≤ i) := by
  obtain ⟨-, -, -, htrigger, -⟩ := c.wf_iff.1 hc
  have hone : (1 : DebWord).getLsbD (i - c.debN) = decide (i - c.debN = 0) := by simp [BitVec.getLsbD_one]
  rw [htrigger, BitVec.getLsbD_or, debMask_getLsbD hc hi, BitVec.getLsbD_shiftLeft, hone]
  rcases Nat.lt_trichotomy c.debN i with h | h | h
  · simp [h, h.le]
  · simp [h, hi]
  · simp [h, Nat.not_le.2 h, Nat.not_lt.2 h.le]

/-- The mask's bits are those above `DEB_N`. -/
theorem Config.and_debMask_iff (v : DebWord) :
    v &&& c.debMask = c.debMask ↔ ∀ i, c.debN < i → i < 16 → v.getLsbD i = true := by
  rw [and_eq_right_iff]
  constructor
  · intro h i hn hi
    exact h i hi (by simp [debMask_getLsbD hc hi, hn])
  · intro h i hi hm
    rw [debMask_getLsbD hc hi, decide_eq_true_iff] at hm
    exact h i hm hi

theorem Config.debSeed_and_debMask : c.debSeed &&& c.debMask = c.debMask :=
  (and_debMask_iff hc _).2 fun _ hn hi => debSeed_getLsbD hc hn hi

/-- With the mask's bits set, the register is the trigger pattern exactly where its lowest set bit is bit `DEB_N`. -/
theorem Config.eq_debTrigger_iff {v : DebWord} (hv : v &&& c.debMask = c.debMask) :
    v = c.debTrigger ↔ lowestSetBit v = c.debN := by
  have hN := debN_le hc
  constructor
  · rintro rfl
    refine Machine.lowestSetBit_eq _ _ (by omega) ?_ fun j hj => ?_
    · simp [debTrigger_getLsbD hc (show c.debN < 16 by omega)]
    · simp [debTrigger_getLsbD hc (show j < 16 by omega), hj]
  · intro hl
    refine BitVec.eq_of_getLsbD_eq fun j hj => ?_
    rw [debTrigger_getLsbD hc hj]
    rcases Nat.lt_trichotomy j c.debN with h | h | h
    · simp [getLsbD_of_lt_lowestSetBit v (hl.symm ▸ h), Nat.not_le.2 h]
    · have hset := getLsbD_lowestSetBit v (by omega)
      rw [hl] at hset
      simp [hset, h]
    · simp [(and_debMask_iff hc v).1 hv j h hj, h.le]

end

/-! ### The defaults -/

@[simp] theorem Config.debN_debDefaults (d : Byte) : (debDefaults d).debN = 12 :=
  show defaults.debN = 12 by decide

@[simp] theorem Config.wf_debDefaults (d : Byte) : (debDefaults d).wf = true :=
  show defaults.wf = true by decide

theorem Config.debSeed_debDefaults_getLsbD_zero (d : Byte) : (debDefaults d).debSeed.getLsbD 0 = true :=
  show defaults.debSeed.getLsbD 0 = true by decide

end Sys2Proof

namespace Sys2Proof.Machine

/-! ### The lowest set bit after a shift (R71) -/

/-- A shift sets the mask's bits. -/
theorem debShift_and_debMask (c : Config) (b : Level) (v : DebWord) :
    debShift c b v &&& c.debMask = c.debMask := by
  rw [and_eq_right_iff]
  intro i hi hm
  simp [debShift, hm]

/-- After a released sample bit 0 is set. -/
theorem lowestSetBit_debShift_true (c : Config) (v : DebWord) : lowestSetBit (debShift c true v) = 0 :=
  lowestSetBit_eq_zero _ (by rw [debShift_getLsbD_zero, Bool.true_or])

section
variable {c : Config} (hc : c.wf = true) (v : DebWord)
include hc

/-- After a pressed sample the lowest set bit is a place higher, up to the mask's lowest. -/
theorem lowestSetBit_debShift_false :
    lowestSetBit (debShift c false v) = min (lowestSetBit v) c.debN + 1 := by
  have hN := Config.debN_le hc
  refine lowestSetBit_eq _ _ (by omega) ?_ fun j hj => ?_
  · rw [debShift_getLsbD_succ c false v (by omega), Config.debMask_getLsbD hc (by omega)]
    by_cases hl : lowestSetBit v ≤ c.debN
    · simp [min_eq_left hl, getLsbD_lowestSetBit v (by omega)]
    · simp [min_eq_right (Nat.le_of_not_le hl)]
  · cases j with
    | zero => rw [debShift_getLsbD_zero, Config.debMask_getLsbD hc (by omega), Bool.false_or, decide_eq_false (by omega)]
    | succ j =>
      rw [debShift_getLsbD_succ c false v (by omega), Config.debMask_getLsbD hc (by omega),
        getLsbD_of_lt_lowestSetBit v (by omega)]
      simp
      omega

/-- A shift triggers exactly where the sample is pressed and the lowest set bit was the one below bit `DEB_N`. -/
theorem debShift_eq_debTrigger_iff (b : Level) :
    debShift c b v = c.debTrigger ↔ b = false ∧ lowestSetBit v + 1 = c.debN := by
  have hN := Config.one_le_debN hc
  rw [Config.eq_debTrigger_iff hc (debShift_and_debMask c b v)]
  cases b with
  | true =>
    rw [lowestSetBit_debShift_true]
    simp
    omega
  | false =>
    rw [lowestSetBit_debShift_false hc]
    simp
    omega

end

end Sys2Proof.Machine
end

section
/-! Proofs for steps and runs (30_encoding R47, R51; 60_exceptions R117; 70_reset R140): one equation of `step` for each of
its cases, and a run of words as the list of their operations up to the first reserved word. -/

namespace Sys2Proof.Machine

/-! ### A step by its cases -/

section
variable (s : State)

/-- A marked run stays refused. -/
theorem step_of_refusalMark (hm : s.refusalMark = true) : step s = .refused .runRefused := by
  simp [step, hm]

variable {s} (hm : s.refusalMark = false)
include hm

theorem step_of_not_wf (hc : s.cfg.wf = false) : step s = .refused .configIllFormed := by
  simp [step, hm, hc]

variable (hc : s.cfg.wf = true)
include hc

theorem step_of_ended (hs : s.stream = []) : step s = .next s := by
  simp [step, hm, hc, (State.fetch_eq_none s).2 hs]

section
variable {w : CommandWord} {ws : List CommandWord} (hs : s.stream = w :: ws)
include hs

theorem step_of_operation {i : Instr} (hd : decode w = .operation i) : step s = exec i (s.setStream ws) := by
  simp [step, hm, hc, (State.fetch_eq_some s w ws).2 hs, hd]

theorem step_of_reserved (hd : decode w = .reserved) : step s = .refused (.reservedWord w (s.setStream ws).refuse) := by
  simp [step, hm, hc, (State.fetch_eq_some s w ws).2 hs, hd]

end

end

/-- Settles O10: the equation of `step` for a word that decodes. -/
theorem stepRunsTheDecodedOperation : Obligations.StepRunsTheDecodedOperation :=
  fun _ _ _ _ hm hc hs hd => step_of_operation hm hc hs hd

/-- Settles O13: the equation of `step` for an ended stream. -/
theorem endedStreamLeavesTheState : Obligations.EndedStreamLeavesTheState :=
  fun _ hm hc hs => step_of_ended hm hc hs

/-- The two reserved words. -/
theorem decode_eq_reserved {w : CommandWord} (hw : w = 0b110 ∨ w = 0b111) : decode w = .reserved := by
  obtain rfl | rfl := hw <;> rfl

/-- Settles O11: the equation of `step` for a reserved word and for a marked run; an operation writes only the block. -/
theorem reservedWordRefusesTheRun : Obligations.ReservedWordRefusesTheRun :=
  ⟨fun s _ ws hm hc hs hw =>
      ⟨(s.setStream ws).refuse, step_of_reserved hm hc hs (decode_eq_reserved hw), rfl, rfl, rfl⟩,
    step_of_refusalMark, fun i s => ⟨s.after i, exec_eq_after i s, rfl⟩⟩

/-- Settles O12: the parameters' check bit by bit, the defaults, and the equation of `step` for parameters that fail it. -/
theorem illFormedConfigurationIsRefused : Obligations.IllFormedConfigurationIsRefused :=
  ⟨Config.wf_iff, fun d => ⟨Config.wf_debDefaults d, Config.debN_debDefaults d⟩, fun _ hm hc => step_of_not_wf hm hc⟩

/-! ### Decoding a list of words -/

theorem decodeAll_cons_of_operation {w : CommandWord} {i : Instr} (hd : decode w = .operation i)
    (ws : List CommandWord) : decodeAll (w :: ws) = (decodeAll ws).map (i :: ·) := by
  rw [decodeAll, hd]
  cases decodeAll ws <;> rfl

theorem decodeAll_cons_of_reserved {w : CommandWord} (hd : decode w = .reserved) (ws : List CommandWord) :
    decodeAll (w :: ws) = none := by
  rw [decodeAll, hd]

/-! ### Runs -/

section
variable {s : State} (hm : s.refusalMark = false) (hc : s.cfg.wf = true)
include hm hc

/-- The steps of a list of words begin with the operation the first word decodes to. -/
theorem steps_cons_of_operation {w : CommandWord} {i : Instr} (hd : decode w = .operation i) (ws : List CommandWord) :
    steps (w :: ws).length (s.setStream (w :: ws)) = steps ws.length ((s.after i).setStream ws) := by
  have hstep : step (s.setStream (w :: ws)) = .next ((s.after i).setStream ws) :=
    (step_of_operation (s := s.setStream (w :: ws)) hm hc rfl hd).trans (exec_eq_after i (s.setStream ws))
  rw [List.length_cons, steps, hstep]

/-- Words that all decode are run as their operations in order. -/
theorem steps_of_decodeAll_some {ws : List CommandWord} {is : List Instr} (h : decodeAll ws = some is) :
    steps ws.length (s.setStream ws) = execAll is (s.setStream []) := by
  induction ws generalizing s is with
  | nil =>
    cases h
    rfl
  | cons w ws ih =>
    cases hd : decode w with
    | reserved => simp [decodeAll_cons_of_reserved hd] at h
    | operation i =>
      rw [decodeAll_cons_of_operation hd, Option.map_eq_some_iff] at h
      obtain ⟨js, hjs, rfl⟩ := h
      rw [steps_cons_of_operation hm hc hd, ih (s := s.after i) hm hc hjs, execAll_cons]
      rfl

/-- Words that do not all decode are refused at the first reserved one, after the operations of those before it. -/
theorem steps_of_decodeAll_none {ws : List CommandWord} (h : decodeAll ws = none) :
    ∃ (before after : List CommandWord) (w : CommandWord) (is : List Instr) (t u : State),
      ws = before ++ w :: after ∧ decodeAll before = some is ∧ decode w = .reserved ∧ execAll is s = .next u
        ∧ steps ws.length (s.setStream ws) = .refused (.reservedWord w t) ∧ t.block = u.block
        ∧ t.refusalMark = true := by
  induction ws generalizing s with
  | nil => cases h
  | cons w ws ih =>
    cases hd : decode w with
    | reserved =>
      have hstep := step_of_reserved (s := s.setStream (w :: ws)) hm hc rfl hd
      refine ⟨[], ws, w, [], (s.setStream ws).refuse, s, rfl, rfl, hd, rfl, ?_, rfl, rfl⟩
      rw [List.length_cons, steps, hstep]
      rfl
    | operation i =>
      rw [decodeAll_cons_of_operation hd, Option.map_eq_none_iff] at h
      obtain ⟨before, after, v, is, t, u, rfl, hbefore, hv, hexec, hrun, hblock, hmark⟩ := ih (s := s.after i) hm hc h
      refine ⟨w :: before, after, v, i :: is, t, u, rfl, ?_, hv, ?_, ?_, hblock, hmark⟩
      · rw [decodeAll_cons_of_operation hd, hbefore, Option.map_some]
      · rw [execAll_cons, hexec]
      · rw [steps_cons_of_operation hm hc hd, hrun]

end

/-- Settles O14: the steps of words that all decode, from the reset state. -/
theorem runIsTheListOfItsOperations : Obligations.RunIsTheListOfItsOperations :=
  fun c _ _ hc h => steps_of_decodeAll_some (s := State.powerOn c) rfl hc h

/-- Settles O15: a run of words that all decode answers a next state, and one of words that do not is refused. -/
theorem runIsRefusedExactlyAtAReservedWord : Obligations.RunIsRefusedExactlyAtAReservedWord := by
  intro c ws hc
  cases h : decodeAll ws with
  | some is =>
    refine ⟨?_, nofun⟩
    rw [runIsTheListOfItsOperations c ws is hc h, execAll_eq]
    rfl
  | none =>
    obtain ⟨before, after, w, is, t, u, hws, hbefore, hw, hexec, hrun, hblock, hmark⟩ :=
      steps_of_decodeAll_none (s := State.powerOn c) rfl hc h
    refine ⟨?_, fun _ => ⟨before, after, w, is, t, u, hws, hbefore, hw, hexec, hrun, hblock, hmark⟩⟩
    rw [run, hrun]
    rfl

end Sys2Proof.Machine
end

section
/-! Proofs for the invariants of 10_state section 5: the mask's bits of `DEB` stay set (R33), and before the first gated ITER
since RESET the block is the reset block but for `TICK`, after it the current band is dispatched and shown (R34, R35). -/

namespace Sys2Proof.Machine

/-! ### No band dispatched since RESET (R34) -/

section
variable {c : Config} {k : Block}

theorem Block.untouched_setTick (v : Byte) (h : k.untouched c) : (k.setTick v).untouched c := by
  rw [h]
  rfl

theorem Block.untouched_atReset (c : Config) : (Block.atReset c).untouched c := rfl

theorem Block.prevBand_of_untouched (h : k.untouched c) : k.prevBand = .sentinel := by
  rw [h]
  rfl

theorem Block.lastTick_of_untouched (h : k.untouched c) : k.lastTick = 255 := by
  rw [h]
  rfl

theorem Block.deb_of_untouched (h : k.untouched c) : k.deb = c.debSeed := by
  rw [h]
  rfl

theorem Block.band_of_untouched (h : k.untouched c) : k.band = .m40 := by
  rw [h]
  rfl

theorem Block.pulse_of_untouched (h : k.untouched c) (i : PulseId) : k.pulses.get i = { a := false, s := 0 } := by
  rw [h]
  cases i <;> rfl

/-- With every pulse low an ungated ITER changes nothing. -/
theorem iter_of_untouched (b : Level) (hg : k.gated = false) (h : k.untouched c) : k.iter c b = k :=
  iter_eq_self c b k hg fun i ha => by simp [k.pulse_of_untouched h i] at ha

theorem iter_untouched_of_not_gated (b : Level) (hg : k.gated = false) (h : k.untouched c) :
    (k.iter c b).untouched c := by
  rwa [iter_of_untouched b hg h]

end

/-! ### Every operation keeps the block's invariant (R33 to R35) -/

section
variable (c : Config) (k : Block)

/-- A band that was not dispatched since RESET, or is dispatched and shown, is so after every operation. -/
theorem effect_untouched_or_shown (i : Instr) (h : k.untouched c ∨ k.shown) :
    (effect c i k).untouched c ∨ (effect c i k).shown := by
  cases i with
  | iter b =>
    rw [effect_iter]
    cases hg : k.gated with
    | true => exact .inr (iter_shown_of_gated c b k hg (h.imp_left k.prevBand_of_untouched))
    | false => exact h.imp (iter_untouched_of_not_gated b hg) (iter_shown_of_not_gated c b k hg)
  | tick => exact h.imp_left (k.untouched_setTick (k.tick + 1))
  | reset => exact .inl (Block.untouched_atReset c)

variable {c} in
/-- The mask's bits of `DEB` are set after every operation. -/
theorem effect_deb_and_debMask (hc : c.wf = true) (i : Instr) (h : k.deb &&& c.debMask = c.debMask) :
    (effect c i k).deb &&& c.debMask = c.debMask := by
  cases i with
  | iter b =>
    rw [effect_iter, iter_deb]
    split_ifs
    · exact debShift_and_debMask c b k.deb
    · exact h
  | tick => exact h
  | reset => exact Config.debSeed_and_debMask hc

end

/-- The power-on state of well-formed parameters meets the invariant. -/
theorem State.inv_powerOn {c : Config} (hc : c.wf = true) : (State.powerOn c).Inv :=
  ⟨hc, rfl, Config.debSeed_and_debMask hc, .inl (Block.untouched_atReset c)⟩

/-- Every operation keeps the machine's invariant. -/
theorem State.inv_after (i : Instr) {s : State} (h : s.Inv) : (s.after i).Inv := by
  obtain ⟨hc, hm, hdeb, hband⟩ := h
  exact ⟨hc, hm, effect_deb_and_debMask s.block hc i hdeb, effect_untouched_or_shown s.cfg s.block i hband⟩

/-- Settles O52: a step is nothing, or an operation, which keeps the invariant. -/
theorem everyStepKeepsTheInvariant : Obligations.EveryStepKeepsTheInvariant := by
  intro s t hs hstep
  obtain ⟨-, -, ⟨-, rfl⟩ | ⟨w, ws, i, -, -, rfl⟩⟩ := step_next_cases s t hstep
  · exact hs
  · exact State.inv_after i (s := s.setStream ws) hs

/-- Settles O51: the power-on state meets the invariant, the defaults included, and is RESET's. -/
theorem invariantHoldsAtReset : Obligations.InvariantHoldsAtReset :=
  ⟨State.inv_powerOn Tests.test_wf_defaults, rfl, fun _ => State.inv_powerOn, fun c => exec_reset (State.powerOn c)⟩

/-! ### The band is shown once a gated ITER has run (R34, R35) -/

/-- No gated ITER since RESET and nothing dispatched, or a gated ITER and the band dispatched and shown. -/
def State.ShowsBandOnceGated (s : State) (h : History) : Prop :=
  h.samples = [] ∧ s.block.untouched s.cfg ∨ h.samples ≠ [] ∧ s.block.shown

theorem State.showsBandOnceGated_after (i : Instr) (s : State) (h : History) (hs : s.ShowsBandOnceGated h) :
    (s.after i).ShowsBandOnceGated (h.note i s) := by
  cases i with
  | iter b =>
    cases hg : s.block.gated with
    | true =>
      rw [History.note_iter_of_gated s h b hg]
      exact .inr ⟨List.cons_ne_nil b _, iter_shown_of_gated s.cfg b s.block hg
        (hs.imp (fun hu => s.block.prevBand_of_untouched hu.2) And.right)⟩
    | false =>
      rw [History.note_iter_of_not_gated s h b hg]
      exact hs.imp (And.imp_right (iter_untouched_of_not_gated b hg))
        (And.imp_right (iter_shown_of_not_gated s.cfg b s.block hg))
  | tick => exact hs.imp_left (And.imp_right (s.block.untouched_setTick (s.block.tick + 1)))
  | reset => exact .inl ⟨rfl, Block.untouched_atReset s.cfg⟩

/-- The mapping table never has both indicators high. -/
theorem indicatorsFor_exclusive (b : Band) : ((indicatorsFor b).1 && (indicatorsFor b).2) = false := by
  cases b <;> rfl

theorem Block.indicators_exclusive_of_untouched {c : Config} {k : Block} (h : k.untouched c) :
    (k.out15m && k.out20m) = false := by
  rw [h]
  rfl

theorem Block.indicators_exclusive_of_shown {k : Block} (h : k.shown) : (k.out15m && k.out20m) = false := by
  rw [← indicatorsFor_exclusive k.band, ← h.2]

/-- Settles O35: the relation of the block and the history holds at reset and every operation keeps it. -/
theorem bandIsShownOnceGated : Obligations.BandIsShownOnceGated := by
  intro c is
  obtain ⟨t, ht, hshows⟩ := execAll_history_induction (P := State.ShowsBandOnceGated) is (State.powerOn c) .fresh
    (.inl ⟨rfl, Block.untouched_atReset c⟩) fun i _ => State.showsBandOnceGated_after i
  refine ⟨t, ht, ?_⟩
  obtain ⟨hnone, hu⟩ | ⟨hsome, hs⟩ := hshows
  · exact ⟨fun _ => ⟨t.block.prevBand_of_untouched hu, t.block.band_of_untouched hu⟩, fun hne => absurd hnone hne,
      Block.indicators_exclusive_of_untouched hu⟩
  · exact ⟨fun hnil => absurd hnil hsome, fun _ => hs, Block.indicators_exclusive_of_shown hs⟩

end Sys2Proof.Machine
end

section
/-! Proofs for `DEB` as the record of the gated samples (41_debounce_band R76, R77; 10_state R33): its bits hold the samples,
latest lowest, and under the default parameters its lowest set bit counts the consecutive pressed samples, so that the
trigger pattern is twelve of them. -/

namespace Sys2Proof.Machine

/-! ### The register holds the samples (R76) -/

section
variable (c : Config) (b : Level) (samples : List Level)

theorem sampleOrSeed_nil (j : Nat) : sampleOrSeed c [] j = c.debSeed.getLsbD j := rfl

@[simp] theorem sampleOrSeed_cons_zero : sampleOrSeed c (b :: samples) 0 = b := rfl

/-- One more sample moves every bit up. -/
@[simp] theorem sampleOrSeed_cons_succ (j : Nat) :
    sampleOrSeed c (b :: samples) (j + 1) = sampleOrSeed c samples j := by
  simp [sampleOrSeed]

end

/-- RESET leaves the seed, which holds the samples of the empty history. -/
theorem State.holdsSamples_of_atReset {s : State} (hc : s.cfg.wf = true) (hs : s.block = Block.atReset s.cfg) :
    s.HoldsSamples .fresh := by
  unfold HoldsSamples
  rw [hs]
  exact ⟨fun j _ => (sampleOrSeed_nil s.cfg j).symm, fun j hn hj => Config.debSeed_getLsbD hc hn hj⟩

/-- A gated ITER shifts its sample in below those held. -/
theorem State.holdsSamples_after_iter_of_gated (b : Level) {h : History} {s : State} (hc : s.cfg.wf = true)
    (hg : s.block.gated = true) (hs : s.HoldsSamples h) : (s.after (.iter b)).HoldsSamples (h.note (.iter b) s) := by
  obtain ⟨hlow, -⟩ := hs
  have hN := Config.debN_le hc
  rw [History.note_iter_of_gated s h b hg]
  unfold HoldsSamples
  rw [after_cfg, after_block, effect_iter, iter_deb_of_gated s.cfg b hg]
  refine ⟨fun j hj => ?_, (Config.and_debMask_iff hc _).1 (debShift_and_debMask s.cfg b s.block.deb)⟩
  cases j with
  | zero =>
    rw [debShift_getLsbD_zero, Config.debMask_getLsbD hc (by omega), sampleOrSeed_cons_zero,
      decide_eq_false (Nat.not_lt_zero _), Bool.or_false]
  | succ j =>
    rw [debShift_getLsbD_succ _ _ _ (by omega), Config.debMask_getLsbD hc (by omega), sampleOrSeed_cons_succ,
      decide_eq_false (Nat.not_lt.2 hj), Bool.or_false, hlow j (by omega)]

/-- Every operation keeps the register the record of the samples. -/
theorem State.holdsSamples_after (i : Instr) {h : History} {s : State} (hc : s.cfg.wf = true) (hs : s.HoldsSamples h) :
    (s.after i).HoldsSamples (h.note i s) := by
  cases i with
  | iter b =>
    cases hg : s.block.gated with
    | true => exact holdsSamples_after_iter_of_gated b hc hg hs
    | false =>
      rw [History.note_iter_of_not_gated s h b hg]
      unfold HoldsSamples
      rw [after_cfg, after_block, effect_iter, iter_deb, hg]
      exact hs
  | tick => exact hs
  | reset => exact holdsSamples_of_atReset (s := s.after .reset) hc rfl

/-- Settles O56: the state an operation answers is `s.after i`. -/
theorem everyOperationKeepsTheSampleHistory : Obligations.EveryOperationKeepsTheSampleHistory :=
  fun i _ s hc hs => ⟨s.after i, exec_eq_after i s, State.holdsSamples_after i hc hs⟩

/-- Settles O27: the record holds at reset and every operation keeps it, as it keeps the parameters. -/
theorem debHoldsTheGatedSamples : Obligations.DebHoldsTheGatedSamples := by
  intro c is hc
  obtain ⟨t, ht, rfl, hs⟩ := execAll_history_induction (P := fun s h => s.cfg = c ∧ s.HoldsSamples h) is
    (State.powerOn c) .fresh ⟨rfl, State.holdsSamples_of_atReset hc rfl⟩
    fun i _ s h ⟨hcfg, hs⟩ => ⟨hcfg, State.holdsSamples_after i (hcfg ▸ hc) hs⟩
  exact ⟨t, ht, hs⟩

/-! ### The lowest set bit counts the pressed samples (R77) -/

@[simp] theorem pressedRun_nil : pressedRun [] = 0 := rfl

@[simp] theorem pressedRun_released (samples : List Level) : pressedRun (true :: samples) = 0 := rfl

@[simp] theorem pressedRun_pressed (samples : List Level) : pressedRun (false :: samples) = pressedRun samples + 1 := rfl

/-- Under parameters whose seed has bit 0 set, the lowest set bit of `DEB` is the counter of consecutive pressed samples,
up to the mask's lowest bit. -/
def State.CountsPressed (s : State) (h : History) : Prop :=
  s.block.deb &&& s.cfg.debMask = s.cfg.debMask
    ∧ lowestSetBit s.block.deb = min (pressedRun h.samples) (s.cfg.debN + 1)

theorem State.countsPressed_of_atReset {s : State} (hc : s.cfg.wf = true) (hseed : s.cfg.debSeed.getLsbD 0 = true)
    (hs : s.block = Block.atReset s.cfg) : s.CountsPressed .fresh := by
  unfold CountsPressed
  rw [hs]
  exact ⟨Config.debSeed_and_debMask hc, by simp [lowestSetBit_eq_zero _ hseed]⟩

theorem State.countsPressed_after (i : Instr) {h : History} {s : State} (hc : s.cfg.wf = true)
    (hseed : s.cfg.debSeed.getLsbD 0 = true) (hs : s.CountsPressed h) : (s.after i).CountsPressed (h.note i s) := by
  obtain ⟨hmask, hlow⟩ := hs
  cases i with
  | iter b =>
    refine ⟨effect_deb_and_debMask s.block hc (.iter b) hmask, ?_⟩
    rw [after_cfg, after_block, effect_iter, iter_deb]
    cases hg : s.block.gated with
    | true =>
      rw [History.note_iter_of_gated s h b hg, if_pos rfl]
      cases b with
      | true => simp [lowestSetBit_debShift_true]
      | false =>
        rw [lowestSetBit_debShift_false hc, hlow, pressedRun_pressed]
        omega
    | false => rwa [History.note_iter_of_not_gated s h b hg]
  | tick => exact ⟨hmask, hlow⟩
  | reset => exact countsPressed_of_atReset (s := s.after .reset) hc hseed rfl

/-- Where the register counts the pressed samples it is the trigger pattern exactly at `DEB_N` of them. -/
theorem State.deb_eq_debTrigger_iff {h : History} {s : State} (hc : s.cfg.wf = true) (hs : s.CountsPressed h) :
    s.block.deb = s.cfg.debTrigger ↔ pressedRun h.samples = s.cfg.debN := by
  obtain ⟨hmask, hlow⟩ := hs
  rw [Config.eq_debTrigger_iff hc hmask, hlow]
  omega

/-- Settles O28: the register counts the pressed samples at reset and every operation keeps it so; at 12 of them it is the
trigger pattern. -/
theorem triggerIsTwelvePressedSamples : Obligations.TriggerIsTwelvePressedSamples := by
  intro d is
  have hc := Config.wf_debDefaults d
  have hseed := Config.debSeed_debDefaults_getLsbD_zero d
  obtain ⟨t, ht, hcfg, hs⟩ := execAll_history_induction (P := fun s h => s.cfg = Config.debDefaults d ∧ s.CountsPressed h)
    is (State.powerOn (Config.debDefaults d)) .fresh ⟨rfl, State.countsPressed_of_atReset hc hseed rfl⟩
    fun i _ s h ⟨hcfg, hs⟩ => ⟨hcfg, State.countsPressed_after i (hcfg ▸ hc) (hcfg ▸ hseed) hs⟩
  have htrigger := State.deb_eq_debTrigger_iff (hcfg ▸ hc) hs
  rw [hcfg, Config.debN_debDefaults] at htrigger
  exact ⟨t, ht, htrigger⟩

end Sys2Proof.Machine
end

section
/-! Proofs for the assertion ticks of low pulses (10_state R20, 43_pulse_expiry R99): two states alike but for them stay so
under every operation and every step, and show the same outputs. -/

namespace Sys2Proof.Machine

/-! ### Entries alike but for a low pulse's start (R20) -/

/-- The same flag, and the same assertion tick where it is high. -/
def Pulse.Alike (p q : Pulse) : Prop := q.a = p.a ∧ (p.a = true → q.s = p.s)

theorem Pulse.Alike.refl (p : Pulse) : p.Alike p := ⟨rfl, fun _ => rfl⟩

theorem Pulse.Alike.symm {p q : Pulse} (h : p.Alike q) : q.Alike p :=
  ⟨h.1.symm, fun hq => (h.2 (h.1 ▸ hq)).symm⟩

/-- The expiry test reads the assertion tick of a high pulse only. -/
theorem Pulse.Alike.expire {p q : Pulse} (h : p.Alike q) (c : Config) (now : Byte) :
    (p.expire c now).Alike (q.expire c now) := by
  obtain ⟨ha, hs⟩ := h
  cases hp : p.a with
  | true =>
    have hpq : q = p := by
      cases p
      cases q
      simp_all
    rw [hpq]
    exact .refl _
  | false =>
    rw [expire_of_low c now hp, expire_of_low c now (ha.trans hp)]
    exact ⟨ha, hs⟩

/-- Every entry of two pulse files is alike. -/
def Pulses.Alike (ps qs : Pulses) : Prop := ∀ i, (ps.get i).Alike (qs.get i)

section
variable (c : Config) (b : Level) (k : Block) {ps : Pulses} (h : k.pulses.Alike ps)
include h

theorem iter_alike : (k.iter c b).pulses.Alike ((k.setPulses ps).iter c b).pulses := by
  intro i
  have hr : rearms c b (k.setPulses ps) i = rearms c b k i := rfl
  rw [iter_pulse, iter_pulse, hr]
  refine Pulse.Alike.expire ?_ c k.tick
  split_ifs
  · exact .refl _
  · exact h i

theorem effect_alike (ins : Instr) : (effect c ins k).pulses.Alike (effect c ins (k.setPulses ps)).pulses := by
  cases ins with
  | iter b => exact iter_alike c b k h
  | tick => exact h
  | reset => exact fun i => .refl _

end

/-! ### States alike but for low pulses' starts -/

/-- Alike states differ in alike pulse files alone. -/
theorem State.sameButLowStarts_iff (s u : State) :
    s.SameButLowStarts u ↔ ∃ ps, s.block.pulses.Alike ps ∧ u = s.setBlock (s.block.setPulses ps) := by
  constructor
  · rintro ⟨hu, h⟩
    exact ⟨u.block.pulses, h, hu⟩
  · rintro ⟨ps, h, rfl⟩
    exact ⟨rfl, h⟩

theorem State.SameButLowStarts.symm {s u : State} (h : s.SameButLowStarts u) : u.SameButLowStarts s := by
  rw [sameButLowStarts_iff] at h ⊢
  obtain ⟨ps, h, rfl⟩ := h
  exact ⟨s.block.pulses, fun i => (h i).symm, rfl⟩

theorem State.sameButLowStarts_after (i : Instr) {s u : State} (h : s.SameButLowStarts u) :
    (s.after i).SameButLowStarts (u.after i) := by
  rw [sameButLowStarts_iff] at h ⊢
  obtain ⟨ps, h, rfl⟩ := h
  exact ⟨_, effect_alike s.cfg s.block h i, congrArg s.setBlock (effect_setPulses_frame s.cfg s.block ps i)⟩

/-- Alike states differ in no field of the machine but the block. -/
theorem State.SameButLowStarts.machine_eq {s u : State} (h : s.SameButLowStarts u) :
    u.cfg = s.cfg ∧ u.stream = s.stream ∧ u.refusalMark = s.refusalMark := by
  rw [h.1]
  exact ⟨rfl, rfl, rfl⟩

/-- Taking a word from both streams keeps two states alike. -/
theorem State.sameButLowStarts_setStream (ws : List CommandWord) {s u : State} (h : s.SameButLowStarts u) :
    (s.setStream ws).SameButLowStarts (u.setStream ws) := by
  rw [sameButLowStarts_iff] at h ⊢
  obtain ⟨ps, h, rfl⟩ := h
  exact ⟨ps, h, rfl⟩

/-- The outputs of a block are its lines, and no line is an assertion tick. -/
theorem State.SameButLowStarts.outputs_eq {s u : State} (h : s.SameButLowStarts u) :
    u.block.port = s.block.port ∧ u.block.band = s.block.band := by
  rw [sameButLowStarts_iff] at h
  obtain ⟨ps, h, rfl⟩ := h
  have h0 : ps.r12Set.a = s.block.pulses.r12Set.a := (h .r12Set).1
  have h1 : ps.r12Reset.a = s.block.pulses.r12Reset.a := (h .r12Reset).1
  have h2 : ps.r34Set.a = s.block.pulses.r34Set.a := (h .r34Set).1
  have h3 : ps.r34Reset.a = s.block.pulses.r34Reset.a := (h .r34Reset).1
  simp [Block.port, h0, h1, h2, h3]

/-! ### Steps and lists of operations -/

/-- Where a step of one of two alike states answers a next state, a step of the other answers an alike one. -/
theorem step_alike {s u t : State} (h : s.SameButLowStarts u) (hstep : step s = .next t) :
    ∃ v, step u = .next v ∧ t.SameButLowStarts v := by
  obtain ⟨hcfg, hstream, hmark⟩ := h.machine_eq
  obtain ⟨hm, hc, hcases⟩ := step_next_cases s t hstep
  rw [← hmark] at hm
  rw [← hcfg] at hc
  rw [← hstream] at hcases
  obtain ⟨hnil, rfl⟩ | ⟨w, ws, i, hw, hd, rfl⟩ := hcases
  · exact ⟨u, step_of_ended hm hc hnil, h⟩
  · exact ⟨_, (step_of_operation hm hc hw hd).trans (exec_eq_after i _),
      State.sameButLowStarts_after i (State.sameButLowStarts_setStream ws h)⟩

theorem accepted_iff (o : Host.Outcome State Fault Refusal) : accepted o = true ↔ ∃ t, o = .next t := by
  cases o <;> simp [accepted]

theorem accepted_step_of_alike {s u : State} (h : s.SameButLowStarts u) (ha : accepted (step s) = true) :
    accepted (step u) = true := by
  rw [accepted_iff] at ha ⊢
  obtain ⟨t, ht⟩ := ha
  obtain ⟨v, hv, -⟩ := step_alike h ht
  exact ⟨v, hv⟩

/-- Settles O58: alike steps, alike outputs, and, the relation being symmetric, the same acceptance. -/
theorem everyStepKeepsLowPulsesAlike : Obligations.EveryStepKeepsLowPulsesAlike :=
  ⟨fun _ _ _ => step_alike, fun _ _ => State.SameButLowStarts.outputs_eq,
    fun _ _ h => Bool.eq_iff_iff.2 ⟨accepted_step_of_alike h.symm, accepted_step_of_alike h⟩⟩

/-- Lists of operations keep two states alike. -/
theorem execAll_alike (is : List Instr) {s u : State} (h : s.SameButLowStarts u) :
    ∃ t v, execAll is s = .next t ∧ execAll is u = .next v ∧ t.SameButLowStarts v := by
  induction is generalizing s u with
  | nil => exact ⟨s, u, rfl, rfl, h⟩
  | cons i is ih =>
    rw [execAll_cons, execAll_cons]
    exact ih (State.sameButLowStarts_after i h)

/-- Settles O47: the two states are alike after every list of operations, and alike states show the same outputs. -/
theorem startTickOfALowPulseIsInvisible : Obligations.StartTickOfALowPulseIsInvisible := by
  intro is s ps hps
  have hstart : s.SameButLowStarts (s.setBlock (s.block.setPulses ps)) :=
    ⟨rfl, fun i => ⟨(hps i).1, fun ha => (hps i).2 ((hps i).1.trans ha)⟩⟩
  obtain ⟨t, v, ht, hv, h⟩ := execAll_alike is hstart
  exact ⟨t, v, ht, hv, h.outputs_eq⟩

end Sys2Proof.Machine
end

section
/-! Proofs for the elapsed test (43_pulse_expiry R98 to R104): its closed form, the ages at which it cannot hold, the age at
which it first holds (the pulse's width, R101), and the starts for which it never does (R100). -/

namespace Sys2Proof.Machine

/-! ### The test by its start (R98, R100) -/

section
variable (c : Config) {start now : Byte}

/-- Branches A and B: a pulse armed at delta or later has expired exactly in the interval from `start - delta` to delta. -/
theorem expired_iff_of_delta_le (hs : 255 - c.pulseD.toNat ≤ start.toNat) :
    expired c start now = true ↔
      now.toNat < 255 - c.pulseD.toNat ∧ start.toNat - (255 - c.pulseD.toNat) ≤ now.toNat := by
  obtain ⟨hA, hB, -⟩ := elapsedTestByItsThreeBranches.1 c start now
  have hstart := start.isLt
  by_cases hn : now.toNat < 255 - c.pulseD.toNat
  · rw [hB hs hn]
    omega
  · simp [hA hs (Nat.le_of_not_lt hn), hn]

/-- Branch C: a pulse armed before delta has expired exactly where its age is at least the duration. -/
theorem expired_iff_of_lt_delta (hs : start.toNat < 255 - c.pulseD.toNat) :
    expired c start now = true ↔ c.pulseD.toNat ≤ (now - start).toNat := by
  obtain ⟨-, -, hC⟩ := elapsedTestByItsThreeBranches.1 c start now
  rw [hC hs, toNat_elapsed]

/-- A pulse younger than the duration has not expired, wherever it was armed. -/
theorem not_expired_of_age_lt (h : (now - start).toNat < c.pulseD.toNat) : expired c start now = false := by
  rw [← Bool.not_eq_true]
  rcases Nat.lt_or_ge start.toNat (255 - c.pulseD.toNat) with hs | hs
  · rw [expired_iff_of_lt_delta c hs]
    omega
  · rw [expired_iff_of_delta_le c hs]
    rw [toNat_elapsed] at h
    omega

end

/-- Settles O40: branches A and B together. -/
theorem elapsedTestClosedForm : Obligations.ElapsedTestClosedForm := fun c _ _ hs => expired_iff_of_delta_le c hs

/-! ### A pulse tested at its own start (R104) -/

theorem expired_self_of_pulseD_eq_zero (c : Config) (now : Byte) (hd : c.pulseD = 0) :
    expired c now now = true ↔ now ≠ 255 := by
  have hzero : c.pulseD.toNat = 0 := by simp [hd]
  have hlast : now = 255 ↔ now.toNat = 255 := BitVec.toNat_inj.symm
  have hlt := now.isLt
  rw [ne_eq, hlast]
  rcases Nat.lt_or_ge now.toNat (255 - c.pulseD.toNat) with hs | hs
  · rw [expired_iff_of_lt_delta c hs]
    omega
  · rw [expired_iff_of_delta_le c hs]
    omega

theorem not_expired_self (c : Config) (now : Byte) (hd : 1 ≤ c.pulseD) : expired c now now = false :=
  not_expired_of_age_lt c (by simpa [BitVec.le_def, Nat.succ_le_iff] using hd)

/-- Settles O44: the age 0 against the duration. -/
theorem pulseArmedNowIsTestedAtZero : Obligations.PulseArmedNowIsTestedAtZero :=
  ⟨not_expired_self, expired_self_of_pulseD_eq_zero⟩

/-- Settles O45: branch B at 254 and branch A at 252, by evaluation. -/
theorem elapsedTestIsNotModularElapsed : Obligations.ElapsedTestIsNotModularElapsed :=
  ⟨rfl, by decide, rfl, by decide, rfl⟩

/-! ### The width of a pulse (R101), and pulses that never expire (R100) -/

section
variable (c : Config) (start : Byte)

theorem pulseWidth_of_lt_delta (hs : start.toNat < 255 - c.pulseD.toNat) : pulseWidth c start = c.pulseD.toNat := by
  rw [← toNat_delta, ← BitVec.lt_def] at hs
  exact if_pos hs

theorem pulseWidth_of_delta_le (hs : 255 - c.pulseD.toNat ≤ start.toNat) :
    pulseWidth c start = c.pulseD.toNat + 1 := by
  rw [← toNat_delta, ← Nat.not_lt, ← BitVec.lt_def] at hs
  exact if_neg hs

/-- The tick `j` ticks after the start. -/
theorem toNat_start_add (j : Nat) : (start + BitVec.ofNat 8 j).toNat = (start.toNat + j) % 256 := by
  simp [BitVec.toNat_add]

/-- A pulse has not expired before it is as old as it is wide. -/
theorem not_expired_of_lt_width {j : Nat} (hj : j < pulseWidth c start) :
    expired c start (start + BitVec.ofNat 8 j) = false := by
  have hstart := start.isLt
  have hd := c.pulseD.isLt
  rw [← Bool.not_eq_true]
  rcases Nat.lt_or_ge start.toNat (255 - c.pulseD.toNat) with hs | hs
  · rw [pulseWidth_of_lt_delta c start hs] at hj
    rw [expired_iff_of_lt_delta c hs, toNat_elapsed, toNat_start_add]
    omega
  · rw [pulseWidth_of_delta_le c start hs] at hj
    rw [expired_iff_of_delta_le c hs, toNat_start_add]
    omega

/-- A pulse armed before twice delta has expired when it is as old as it is wide. -/
theorem expired_at_width (h : start.toNat < 2 * (255 - c.pulseD.toNat)) :
    expired c start (start + BitVec.ofNat 8 (pulseWidth c start)) = true := by
  have hstart := start.isLt
  have hd := c.pulseD.isLt
  rcases Nat.lt_or_ge start.toNat (255 - c.pulseD.toNat) with hs | hs
  · rw [pulseWidth_of_lt_delta c start hs, expired_iff_of_lt_delta c hs, toNat_elapsed, toNat_start_add]
    omega
  · rw [pulseWidth_of_delta_le c start hs, expired_iff_of_delta_le c hs, toNat_start_add]
    omega

/-- A pulse armed at twice delta or later never expires. -/
theorem not_expired_of_two_delta_le (h : 2 * (255 - c.pulseD.toNat) ≤ start.toNat) (now : Byte) :
    expired c start now = false := by
  rw [← Bool.not_eq_true, expired_iff_of_delta_le c (by omega)]
  omega

end

/-- Settles O41: a start below twice delta has the expiry point at its width, and none from there on has one. -/
theorem pulsesThatNeverExpire : Obligations.PulsesThatNeverExpire := by
  refine ⟨fun c start => ⟨fun h => ?_, not_expired_of_two_delta_le c start⟩,
    fun c start hd => ⟨_, expired_at_width c start ?_⟩⟩
  · by_contra hlt
    exact absurd (expired_at_width c start (Nat.lt_of_not_le hlt)) (by simp [h])
  · have hstart := start.isLt
    have hd' : c.pulseD.toNat ≤ 127 := hd
    omega

end Sys2Proof.Machine
end

section
/-! Proofs for samples taken one a tick (70_reset R132): an induction over the samples, and the width a pulse is seen
high (43_pulse_expiry R101). -/

namespace Sys2Proof.Machine

/-! ### One sample a tick -/

/-- The state after one tick and the ITER that sees it. -/
def State.afterTickIter (b : Level) (s : State) : State := (s.after .tick).after (.iter b)

section
variable (b : Level) (s : State)

theorem State.afterTickIter_block :
    (s.afterTickIter b).block = (s.block.setTick (s.block.tick + 1)).iter s.cfg b := rfl

@[simp] theorem State.afterTickIter_tick : (s.afterTickIter b).block.tick = s.block.tick + 1 := by
  simp [afterTickIter_block]

@[simp] theorem State.afterTickIter_lastTick : (s.afterTickIter b).block.lastTick = s.block.tick + 1 := by
  simp [afterTickIter_block]

/-- The ITER is gated where the tick before it was not the last one's successor seen. -/
theorem State.gated_after_tick (h : s.block.tick + 1 ≠ s.block.lastTick) : (s.after .tick).block.gated = true :=
  (gated_iff _).2 h

theorem byte_add_one_ne (t : Byte) : t + 1 ≠ t := by
  simp

end

theorem tickIters_cons (b : Level) (bs : List Level) : tickIters (b :: bs) = .tick :: .iter b :: tickIters bs := rfl

/-- A relation of the number of samples so far, the state and the history that holds at the start, and that each sample
keeps, holds after all of them. -/
theorem execAll_tickIters_induction {P : Nat → State → History → Prop} (bs : List Level) (n : Nat) (s : State)
    (h : History) (h0 : P n s h)
    (hstep : ∀ b ∈ bs, ∀ m s h, m < n + bs.length → P m s h →
      P (m + 1) (s.afterTickIter b) (h.note (.iter b) (s.after .tick))) :
    ∃ t, execAll (tickIters bs) s = .next t ∧ P (n + bs.length) t (historyAfter (tickIters bs) s h) := by
  induction bs generalizing n s h with
  | nil => exact ⟨s, rfl, h0⟩
  | cons b bs ih =>
    have hlen : n + 1 + bs.length = n + (b :: bs).length := by
      rw [List.length_cons]
      omega
    have hnext := ih (n + 1) (s.afterTickIter b) (h.note (.iter b) (s.after .tick))
      (hstep b List.mem_cons_self n s h (by omega) h0)
      fun b' hb' m s h hm => hstep b' (List.mem_cons_of_mem b hb') m s h (hlen ▸ hm)
    rw [hlen] at hnext
    rwa [tickIters_cons, execAll_cons, execAll_cons, historyAfter_cons, historyAfter_cons]

/-! ### The width a pulse is seen high (R101) -/

/-- `n` ticks after pulse `i` was armed at `start`, each seen: it was armed again at a later one of them, or it is high
exactly while it is younger than its width or never expires. -/
def State.SeenEveryTick (c : Config) (start : Byte) (i : PulseId) (n : Nat) (s : State) : Prop :=
  s.cfg = c ∧ s.block.tick = start + BitVec.ofNat 8 n
    ∧ ((s.block.pulses.get i).s = start
          ∧ ((s.block.pulses.get i).a = true
            ↔ n < pulseWidth c start ∨ 2 * (255 - c.pulseD.toNat) ≤ start.toNat)
        ∨ ∃ j, 1 ≤ j ∧ j ≤ n ∧ (s.block.pulses.get i).s = start + BitVec.ofNat 8 j)

theorem pulseWidth_pos (c : Config) (start : Byte) (hd : 1 ≤ c.pulseD) : 0 < pulseWidth c start := by
  have hd' : 1 ≤ c.pulseD.toNat := hd
  unfold pulseWidth
  split_ifs <;> omega

/-- A tick later a pulse not armed again is still high where it was and has not become as old as it is wide. -/
theorem younger_than_width_succ (c : Config) (start : Byte) (n : Nat) :
    ((n < pulseWidth c start ∨ 2 * (255 - c.pulseD.toNat) ≤ start.toNat)
        ∧ expired c start (start + BitVec.ofNat 8 (n + 1)) = false)
      ↔ n + 1 < pulseWidth c start ∨ 2 * (255 - c.pulseD.toNat) ≤ start.toNat := by
  constructor
  · rintro ⟨hn | hnever, hexp⟩
    · refine (Nat.lt_or_ge start.toNat (2 * (255 - c.pulseD.toNat))).imp (fun hs => ?_) id
      have hne : n + 1 ≠ pulseWidth c start := fun heq => by simp [heq, expired_at_width c start hs] at hexp
      omega
    · exact .inr hnever
  · rintro (hn | hnever)
    · exact ⟨.inl (by omega), not_expired_of_lt_width c start hn⟩
    · exact ⟨.inr hnever, not_expired_of_two_delta_le c start hnever _⟩

theorem State.seenEveryTick_afterTickIter (c : Config) (start : Byte) (i : PulseId) (b : Level) (n : Nat) (s : State)
    (hs : s.SeenEveryTick c start i n) : (s.afterTickIter b).SeenEveryTick c start i (n + 1) := by
  obtain ⟨rfl, htick, hpulse⟩ := hs
  have htick' : s.block.tick + 1 = start + BitVec.ofNat 8 (n + 1) := by
    rw [htick, add_assoc, BitVec.ofNat_add]
    rfl
  refine ⟨rfl, by rw [afterTickIter_tick, htick'], ?_⟩
  rw [afterTickIter_block]
  cases hr : rearms s.cfg b (s.block.setTick (s.block.tick + 1)) i with
  | true =>
    rw [iter_pulse_of_rearms _ _ _ hr]
    exact .inr ⟨n + 1, by omega, le_rfl, htick'⟩
  | false =>
    rw [iter_pulse_of_not_rearms _ _ _ hr, Pulse.expire_s, Pulse.expire_a, Block.setTick_tick, Block.setTick_pulses, htick']
    obtain ⟨hstart, hhigh⟩ | ⟨j, hj, hjn, hstart⟩ := hpulse
    · refine .inl ⟨hstart, ?_⟩
      rw [hstart, Bool.and_eq_true, hhigh, Bool.not_eq_true', younger_than_width_succ]
    · exact .inr ⟨j, hj, by omega, hstart⟩

/-- Settles O43: the relation holds when the pulse is armed and each sample keeps it; within 255 ticks an unchanged start
rules out its second case. -/
theorem pulseWidthUnderTheCadence : Obligations.PulseWidthUnderTheCadence := by
  intro s i bs hd _ hi hlen
  have h0 : s.SeenEveryTick s.cfg s.block.tick i 0 := by
    refine ⟨rfl, by simp, .inl ⟨by rw [hi], ?_⟩⟩
    simp [hi, pulseWidth_pos s.cfg s.block.tick hd]
  obtain ⟨t, ht, -, -, hpulse⟩ := execAll_tickIters_induction (P := fun n s' _ => s'.SeenEveryTick s.cfg s.block.tick i n)
    bs 0 s .fresh h0 fun b _ n s' _ _ => State.seenEveryTick_afterTickIter _ _ i b n s'
  rw [Nat.zero_add] at hpulse
  refine ⟨t, ht, fun hstart => ?_⟩
  obtain ⟨-, hhigh⟩ | ⟨j, hj, hjn, hstart'⟩ := hpulse
  · exact hhigh
  · have := congrArg BitVec.toNat (hstart.symm.trans hstart')
    rw [toNat_start_add] at this
    omega

end Sys2Proof.Machine
end

section
/-! Proofs for the number of advances (41_debounce_band R78 to R85): those of a button held for some samples, one a tick, the
distance of two of them, and the band and the calibration line as counters. -/

namespace Sys2Proof.Machine

/-! ### A held button (R78, R80) -/

/-- What `n` pressed samples leave, one a tick, where the lowest set bit of `DEB` was `l`, the band `band` and the history
`h₀` at the start: they have brought that bit `n` places up, and advanced the band once where it has come to bit `DEB_N`. -/
structure State.HeldFor (c : Config) (l : Nat) (band : Band) (h₀ : History) (n : Nat) (s : State) (h : History) :
    Prop where
  cfg_eq : s.cfg = c
  gate_opens : s.block.tick + 1 ≠ s.block.lastTick
  lowest : lowestSetBit s.block.deb = min (l + n) (c.debN + 1)
  band_eq : s.block.band = if l < c.debN ∧ c.debN ≤ n + l then band.next else band
  history_eq : h = { samples := List.replicate n false ++ h₀.samples
                     advances := h₀.advances + if l < c.debN ∧ c.debN ≤ n + l then 1 else 0 }

theorem State.heldFor_afterTickIter {c : Config} (hc : c.wf = true) {l : Nat} {band : Band} {h₀ : History} {n : Nat}
    {s : State} {h : History} (hs : s.HeldFor c l band h₀ n h) :
    (s.afterTickIter false).HeldFor c l band h₀ (n + 1) (h.note (.iter false) (s.after .tick)) := by
  obtain ⟨rfl, hgate, hlow, hband, rfl⟩ := hs
  have hg := s.gated_after_tick hgate
  have hdeb : (s.after .tick).block.deb = s.block.deb := rfl
  have htrigger : debShift s.cfg false s.block.deb = s.cfg.debTrigger ↔ l + n + 1 = s.cfg.debN := by
    rw [debShift_eq_debTrigger_iff hc, hlow]
    simp
    omega
  have hlow' : lowestSetBit (s.afterTickIter false).block.deb = min (l + (n + 1)) (s.cfg.debN + 1) := by
    rw [afterTickIter, after_block, effect_iter, iter_deb_of_gated _ _ hg, after_cfg, hdeb,
      lowestSetBit_debShift_false hc, hlow]
    omega
  have hband' : (s.afterTickIter false).block.band = if l + n + 1 = s.cfg.debN then s.block.band.next else s.block.band := by
    rw [afterTickIter, after_block, effect_iter, iter_band, if_pos hg, bandAfter, after_cfg, hdeb]
    simp only [htrigger]
    rfl
  rw [History.note_iter_of_gated _ _ _ hg, after_cfg, hdeb]
  by_cases ht : l + n + 1 = s.cfg.debN
  · have hbefore : ¬ (l < s.cfg.debN ∧ s.cfg.debN ≤ n + l) := by omega
    have hafter : l < s.cfg.debN ∧ s.cfg.debN ≤ n + 1 + l := by omega
    refine ⟨rfl, by simp, hlow', ?_, ?_⟩
    · rw [hband', hband, if_pos ht, if_neg hbefore, if_pos hafter]
    · rw [if_pos (htrigger.2 ht), if_neg hbefore, if_pos hafter]
      rfl
  · have hsame : (l < s.cfg.debN ∧ s.cfg.debN ≤ n + 1 + l) ↔ (l < s.cfg.debN ∧ s.cfg.debN ≤ n + l) := by omega
    refine ⟨rfl, by simp, hlow', ?_, ?_⟩
    · simp only [hband', hband, if_neg ht, hsame]
    · simp only [if_neg (mt htrigger.1 ht), hsame]
      rfl

/-- No pressed sample yet, where the gate opens at the next tick. -/
theorem State.heldFor_zero {c : Config} {s : State} (h : History) (hcfg : s.cfg = c)
    (hgate : s.block.tick + 1 ≠ s.block.lastTick) (hl : lowestSetBit s.block.deb ≤ c.debN + 1) :
    s.HeldFor c (lowestSetBit s.block.deb) s.block.band h 0 h := by
  refine ⟨hcfg, hgate, by simp [hl], ?_, ?_⟩
  · rw [if_neg (by omega)]
  · rw [if_neg (by omega)]
    rfl

/-- `n` pressed samples, one a tick, where the gate opens at the next tick. -/
theorem execAll_held {c : Config} (hc : c.wf = true) (n : Nat) {s : State} (h : History) (hcfg : s.cfg = c)
    (hgate : s.block.tick + 1 ≠ s.block.lastTick) (hl : lowestSetBit s.block.deb ≤ c.debN + 1) :
    ∃ t, execAll (tickIters (List.replicate n false)) s = .next t
      ∧ t.HeldFor c (lowestSetBit s.block.deb) s.block.band h n
          (historyAfter (tickIters (List.replicate n false)) s h) := by
  have hheld := execAll_tickIters_induction (P := State.HeldFor c (lowestSetBit s.block.deb) s.block.band h)
    (List.replicate n false) 0 s h (State.heldFor_zero h hcfg hgate hl) fun b hb m s h _ hs => by
      rw [List.eq_of_mem_replicate hb]
      exact State.heldFor_afterTickIter hc hs
  rwa [List.length_replicate, Nat.zero_add] at hheld

/-- The lowest set bit of a register with the mask's bits set is the mask's lowest or below it. -/
theorem lowestSetBit_le_debN_add_one {c : Config} (hc : c.wf = true) {v : DebWord} (hv : v &&& c.debMask = c.debMask) :
    lowestSetBit v ≤ c.debN + 1 := by
  have hN := Config.debN_le hc
  exact lowestSetBit_le_of_getLsbD v ((Config.and_debMask_iff hc v).1 hv _ (by omega) (by omega))

/-- Settles O60: the samples held from the seed's lowest set bit. -/
theorem heldFromResetAdvancesBySeed : Obligations.HeldFromResetAdvancesBySeed := by
  intro c k hc
  obtain ⟨t, -, ht⟩ := execAll_held hc k (s := State.powerOn c) .fresh rfl (by decide : (0 : Byte) + 1 ≠ 255)
    (lowestSetBit_le_debN_add_one hc (Config.debSeed_and_debMask hc))
  rw [ht.history_eq]
  exact Nat.zero_add _

/-- Settles O30: the samples held from bit 0. -/
theorem onePressAdvancesOnce : Obligations.OnePressAdvancesOnce := by
  intro d s m hcfg hgate hbit
  have hl := lowestSetBit_eq_zero _ hbit
  obtain ⟨t, ht, hheld⟩ := execAll_held (Config.wf_debDefaults d) m (s := s) .fresh hcfg
    (by rw [hgate]; exact byte_add_one_ne _) (by omega)
  refine ⟨t, ht, ?_⟩
  simp [hheld.band_eq, hl]

/-! ### The distance of two advances (R81) -/

/-- Since the trigger pattern was reached no advance has come before `DEB_N` + 1 samples: the lowest set bit of `DEB` is at
`DEB_N` or past it, or it has been counted up from a released sample. -/
def State.AdvancesLate (c : Config) (s : State) (h : History) : Prop :=
  s.cfg = c ∧ (h.advances = 0 ∧ (c.debN ≤ lowestSetBit s.block.deb ∨ lowestSetBit s.block.deb + 1 ≤ h.samples.length)
    ∨ c.debN + 1 ≤ h.samples.length)

theorem State.advancesLate_after {c : Config} (hc : c.wf = true) {i : Instr} (hi : i ≠ .reset) {s : State} {h : History}
    (hs : s.AdvancesLate c h) : (s.after i).AdvancesLate c (h.note i s) := by
  obtain ⟨rfl, hlate⟩ := hs
  refine ⟨rfl, ?_⟩
  cases i with
  | iter b =>
    rw [after_block, effect_iter, iter_deb]
    cases hg : s.block.gated with
    | false => rwa [History.note_iter_of_not_gated s h b hg]
    | true =>
      rw [History.note_iter_of_gated s h b hg, if_pos rfl, List.length_cons]
      simp only [debShift_eq_debTrigger_iff hc]
      cases b with
      | true =>
        rw [lowestSetBit_debShift_true, if_neg (by simp)]
        omega
      | false =>
        rw [lowestSetBit_debShift_false hc]
        split_ifs <;> omega
  | tick => exact hlate
  | reset => exact absurd rfl hi

/-- A released sample and then 12 pressed ones, one a tick, from a state with the gate closed: one advance. -/
theorem historyAfter_released_held {c : Config} (hc : c.wf = true) (s : State) (hcfg : s.cfg = c)
    (hgate : s.block.tick = s.block.lastTick) :
    historyAfter (tickIters (true :: List.replicate c.debN false)) s .fresh
      = { samples := List.replicate c.debN false ++ [true], advances := 1 } := by
  subst hcfg
  have hN := Config.one_le_debN hc
  have hg : (s.after .tick).block.gated = true := s.gated_after_tick (by rw [hgate]; exact byte_add_one_ne _)
  have hnote : History.fresh.note (.iter true) (s.after .tick) = { samples := [true], advances := 0 } := by
    rw [History.note_iter_of_gated _ _ _ hg, if_neg (by simp [debShift_eq_debTrigger_iff hc])]
    rfl
  have hl : lowestSetBit (s.afterTickIter true).block.deb = 0 := by
    rw [State.afterTickIter, State.after_block, effect_iter, iter_deb_of_gated _ _ hg, lowestSetBit_debShift_true]
  obtain ⟨t, -, ht⟩ := execAll_held hc s.cfg.debN (s := s.afterTickIter true) { samples := [true], advances := 0 } rfl
    (by simp) (by omega)
  rw [tickIters_cons, historyAfter_cons, historyAfter_cons]
  calc historyAfter (tickIters (List.replicate s.cfg.debN false)) (s.afterTickIter true)
        (History.fresh.note (.iter true) (s.after .tick))
    _ = _ := by rw [hnote, ht.history_eq, hl, if_pos (by omega)]

/-- Settles O31: the relation holds at the trigger pattern and every operation but RESET keeps it; the released sample and
the held ones are `historyAfter_released_held`. -/
theorem advancesAreThirteenGatedItersApart : Obligations.AdvancesAreThirteenGatedItersApart := by
  refine ⟨fun d s is hcfg hdeb hreset hadv => ?_, fun d s hcfg _ hgate => ?_⟩
  · have hc := Config.wf_debDefaults d
    have hl : lowestSetBit s.block.deb = 12 := by
      rw [hdeb]
      decide
    have hN := Config.debN_debDefaults d
    obtain ⟨t, -, -, hlate⟩ := execAll_history_induction (P := State.AdvancesLate (Config.debDefaults d)) is s .fresh
      ⟨hcfg, .inl ⟨rfl, .inl (by omega)⟩⟩
      fun i hi s h => State.advancesLate_after hc (fun heq => hreset (heq ▸ hi))
    omega
  · exact Config.debN_debDefaults d ▸ historyAfter_released_held (Config.wf_debDefaults d) s hcfg hgate

/-! ### The band and the calibration line count (R84, R85) -/

theorem Band.toNat_code_next (b : Band) : b.next.code.toNat = (b.code.toNat + 1) % 3 := by
  cases b <;> rfl

/-- The band's code is the number of advances modulo 3, `CAL` the number of gated samples modulo 2. -/
def State.CountsModulo (s : State) (h : History) : Prop :=
  s.block.band.code.toNat = h.advances % 3 ∧ s.block.cal = decide (h.samples.length % 2 = 1)

theorem State.countsModulo_after (i : Instr) {s : State} {h : History} (hs : s.CountsModulo h) :
    (s.after i).CountsModulo (h.note i s) := by
  cases i with
  | iter b =>
    cases hg : s.block.gated with
    | false =>
      rw [History.note_iter_of_not_gated s h b hg]
      simpa [CountsModulo, iter_band, iter_cal, hg] using hs
    | true =>
      obtain ⟨hband, hcal⟩ := hs
      rw [History.note_iter_of_gated s h b hg]
      refine ⟨?_, ?_⟩
      · rw [after_block, effect_iter, iter_band, if_pos hg, bandAfter]
        split_ifs
        · rw [Band.toNat_code_next, hband, Nat.mod_add_mod]
        · exact hband
      · rw [after_block, effect_iter, iter_cal_of_gated _ _ hg, hcal, List.length_cons, ← decide_not]
        congr 1
        simp
        omega
  | tick => exact hs
  | reset => exact ⟨rfl, rfl⟩

/-- Settles O29: the counts hold at reset and every operation keeps them. -/
theorem bandAndCalCountModulo : Obligations.BandAndCalCountModulo := fun c is =>
  execAll_history_induction (P := State.CountsModulo) is (State.powerOn c) .fresh ⟨rfl, rfl⟩
    fun i _ _ _ => State.countsModulo_after i

end Sys2Proof.Machine
end

section
/-! Proofs for pair exclusivity under the one-tick cadence (42_dispatch R97, 70_reset R132). With a duration of at most 11 a
pulse has expired when the twelve samples that lead to the next dispatch have been seen: a high pulse is young, and no
young pulse outlives the sample that triggers. -/

namespace Sys2Proof.Machine

/-! ### Pairs -/

@[simp] theorem PulseId.partner_partner (i : PulseId) : i.partner.partner = i := by
  cases i <;> rfl

theorem not_both_iff (x y : Bool) : (!(x && y)) = true ↔ (x = true → y = false) := by
  cases x <;> simp

/-- No high pulse has a high partner. -/
theorem Block.pairsExclusive_iff (k : Block) :
    k.pairsExclusive = true ↔ ∀ i, (k.pulses.get i).a = true → (k.pulses.get i.partner).a = false := by
  rw [pairsExclusive, Bool.and_eq_true, not_both_iff, not_both_iff]
  constructor
  · rintro ⟨h12, h34⟩ i hi
    cases i with
    | r12Set => exact h12 hi
    | r12Reset => exact Bool.eq_false_iff.2 fun hset => Bool.eq_false_iff.1 (h12 hset) hi
    | r34Set => exact h34 hi
    | r34Reset => exact Bool.eq_false_iff.2 fun hset => Bool.eq_false_iff.1 (h34 hset) hi
  · exact fun h => ⟨h .r12Set, h .r34Set⟩

section
variable (c : Config) (b : Level) (k : Block)

/-- Where every high pulse was armed by the ITER itself the pairs are exclusive: no row arms both members of one. -/
theorem pairsExclusive_iter_of_rearmed
    (h : ∀ i, ((k.iter c b).pulses.get i).a = true → rearms c b k i = true) : (k.iter c b).pairsExclusive = true := by
  rw [Block.pairsExclusive_iff]
  intro i hi
  by_contra hp
  have hpartner := h i.partner (by simpa using hp)
  have hd := dispatches_of_rearms c b k hpartner
  have harmed := h i hi
  rw [rearms_eq_of_dispatches c b k hd] at hpartner harmed
  simp [armedBy_partner_of_armedBy harmed] at hpartner

/-- Where an ITER dispatches no row the pairs stay exclusive: no flag is set. -/
theorem pairsExclusive_iter_of_quiet (hd : ¬ dispatches c b k) (h : k.pairsExclusive = true) :
    (k.iter c b).pairsExclusive = true := by
  rw [Block.pairsExclusive_iff] at h ⊢
  intro i hi
  have hquiet := rearms_eq_false_of_not_dispatches c b k hd
  obtain ⟨-, ⟨hr, -⟩ | ⟨hi, -⟩⟩ := high_after_iter c b k hi
  · simp [hquiet] at hr
  · rw [iter_pulse_of_not_rearms c b k (hquiet _), Pulse.expire_of_low c k.tick (h i hi)]
    exact h i hi

/-- Where the current band is the dispatched one, a gated ITER dispatches exactly where its sample triggers. -/
theorem dispatches_iff_of_shown (hg : k.gated = true) (hs : k.shown) :
    dispatches c b k ↔ debShift c b k.deb = c.debTrigger := by
  have hnext : k.band ≠ k.band.next := by cases k.band <;> decide
  rw [dispatches, hs.1, bandAfter]
  split_ifs with ht <;> simp [hg, ht, hnext]

end

/-! ### The ages of high pulses -/

section
variable {c : Config} (hd : c.pulseD.toNat ≤ 11) {start now : Byte}
include hd

/-- A pulse at most a tick older than the duration that has not expired is no older than it. -/
theorem age_le_of_not_expired (hage : (now - start).toNat ≤ c.pulseD.toNat + 1) (h : expired c start now = false) :
    (now - start).toNat ≤ c.pulseD.toNat := by
  have hstart := start.isLt
  have hnow := now.isLt
  rw [← Bool.not_eq_true] at h
  rcases Nat.lt_or_ge start.toNat (255 - c.pulseD.toNat) with hs | hs
  · rw [expired_iff_of_lt_delta c hs] at h
    omega
  · rw [expired_iff_of_delta_le c hs] at h
    rw [toNat_elapsed] at hage ⊢
    omega

omit hd in
/-- One tick later the age is one more. -/
theorem toNat_age_add_one (h : (now - start).toNat < 255) : (now + 1 - start).toNat = (now - start).toNat + 1 := by
  rw [toNat_elapsed] at h ⊢
  rw [BitVec.toNat_add, toNat_elapsed]
  have hone : (1 : Byte).toNat = 1 := rfl
  omega

end

/-! ### Young pulses -/

section
variable {c : Config} {d : Byte} (hc : c = Config.debDefaults d) (hd : d ≤ 11) (b : Level) {k : Block}
include hc hd

theorem toNat_pulseD_le : c.pulseD.toNat ≤ 11 := by
  subst hc
  exact hd

/-- At the sample that triggers, a tick after the latest one, every young pulse has expired. -/
theorem expired_of_young_of_trigger (htick : k.tick = k.lastTick + 1) {i : PulseId} (hy : k.Young c i)
    (ht : lowestSetBit k.deb = 11) : expired c (k.pulses.get i).s k.tick = true := by
  have hD := toNat_pulseD_le hc hd
  obtain ⟨hage, -, hpress⟩ := hy
  have hage' : (k.lastTick - (k.pulses.get i).s).toNat ≤ c.pulseD.toNat := hage
  obtain hold | ⟨hold, hs⟩ := hpress (by omega)
  · rw [Block.age] at hold
    omega
  · rw [Block.age] at hold
    have hs' : (k.pulses.get i).s.toNat < 255 - c.pulseD.toNat := toNat_delta c ▸ hs
    rw [expired_iff_of_lt_delta c hs', htick, toNat_age_add_one (by omega)]
    omega

/-- A pulse that a sample did not arm, and that is still high after it, is young as it was before. -/
theorem young_iter_of_kept (hg : k.gated = true) (htick : k.tick = k.lastTick + 1) {i : PulseId} (hy : k.Young c i)
    (hs : ((k.iter c b).pulses.get i).s = (k.pulses.get i).s)
    (hexp : expired c (k.pulses.get i).s k.tick = false) : (k.iter c b).Young c i := by
  have hD := toNat_pulseD_le hc hd
  obtain ⟨hage, -, hpress⟩ := hy
  have hage' : (k.lastTick - (k.pulses.get i).s).toNat ≤ c.pulseD.toNat := hage
  have hsucc := toNat_age_add_one (now := k.lastTick) (start := (k.pulses.get i).s) (by omega)
  rw [← htick] at hsucc
  unfold Block.Young Block.age at *
  rw [iter_lastTick, hs, iter_deb_of_gated c b hg, BitVec.le_def, hsucc]
  refine ⟨?_, hexp, ?_⟩
  · rw [← hsucc]
    exact age_le_of_not_expired hD (by omega) hexp
  · cases b with
    | true =>
      rw [lowestSetBit_debShift_true]
      omega
    | false =>
      have hN : c.debN = 12 := hc ▸ Config.debN_debDefaults d
      rw [lowestSetBit_debShift_false (hc ▸ Config.wf_debDefaults d), hN]
      intro hl
      exact (hpress (by omega)).imp (fun hold => by omega) (And.imp_left fun hold => by omega)

omit hd in
/-- A pulse that a triggering sample leaves with its tick is young: no press is on. -/
theorem young_iter_of_trigger (hg : k.gated = true) (ht : debShift c b k.deb = c.debTrigger) {i : PulseId}
    (hs : ((k.iter c b).pulses.get i).s = k.tick) (hexp : expired c k.tick k.tick = false) :
    (k.iter c b).Young c i := by
  have hlow : lowestSetBit c.debTrigger = 12 := hc ▸ Config.debN_debDefaults d
  unfold Block.Young Block.age
  rw [iter_lastTick, hs, iter_deb_of_gated c b hg, ht, hlow, BitVec.sub_self]
  exact ⟨Nat.zero_le _, hexp, by omega⟩

/-- What a gated ITER a tick after the latest one leaves, where every high pulse was young: exclusive pairs, and every high
pulse young. A sample that triggers leaves no pulse high but those it arms; any other arms none. -/
theorem pairs_and_young_iter_of_gated (hg : k.gated = true) (hshown : k.shown) (htick : k.tick = k.lastTick + 1)
    (hpairs : k.pairsExclusive = true) (hy : ∀ i, (k.pulses.get i).a = true → k.Young c i) :
    (k.iter c b).pairsExclusive = true ∧ ∀ i, ((k.iter c b).pulses.get i).a = true → (k.iter c b).Young c i := by
  have hdispatches := dispatches_iff_of_shown c b k hg hshown
  by_cases ht : debShift c b k.deb = c.debTrigger
  · have hlow : lowestSetBit k.deb = 11 := by
      have h := ((debShift_eq_debTrigger_iff (hc ▸ Config.wf_debDefaults d) k.deb b).1 ht).2
      rw [hc, Config.debN_debDefaults] at h
      omega
    have hrearmed : ∀ i, ((k.iter c b).pulses.get i).a = true →
        rearms c b k i = true ∧ ((k.iter c b).pulses.get i).s = k.tick := by
      intro i hi
      obtain ⟨hexp, hr | ⟨hhigh, hs⟩⟩ := high_after_iter c b k hi
      · exact hr
      · rw [hs, expired_of_young_of_trigger hc hd htick (hy i hhigh) hlow] at hexp
        cases hexp
    refine ⟨pairsExclusive_iter_of_rearmed c b k fun i hi => (hrearmed i hi).1, fun i hi => ?_⟩
    have hs := (hrearmed i hi).2
    exact young_iter_of_trigger hc b hg ht hs (hs ▸ (high_after_iter c b k hi).1)
  · have hquiet := mt hdispatches.1 ht
    refine ⟨pairsExclusive_iter_of_quiet c b k hquiet hpairs, fun i hi => ?_⟩
    obtain ⟨hexp, ⟨hr, -⟩ | ⟨hhigh, hs⟩⟩ := high_after_iter c b k hi
    · exact absurd (dispatches_of_rearms c b k hr) hquiet
    · exact young_iter_of_kept hc hd b hg htick (hy i hhigh) hs (hs ▸ hexp)

/-- What the first ITER leaves where no band was dispatched since RESET and the counter is at 0 or 1: it dispatches band 0, and
every high pulse is one it arms. -/
theorem pairs_and_young_iter_of_untouched (hu : k.untouched c) (htick : k.tick.toNat ≤ 1) :
    (k.iter c b).shown
      ∧ (k.iter c b).pairsExclusive = true ∧ ∀ i, ((k.iter c b).pulses.get i).a = true → (k.iter c b).Young c i := by
  have hD := toNat_pulseD_le hc hd
  have hwf : c.wf = true := hc ▸ Config.wf_debDefaults d
  have hg : k.gated = true := by
    rw [gated_iff, k.lastTick_of_untouched hu]
    intro h
    rw [h] at htick
    revert htick
    decide
  have hdeb : lowestSetBit k.deb = 0 := by
    rw [k.deb_of_untouched hu, hc]
    exact lowestSetBit_eq_zero _ (Config.debSeed_debDefaults_getLsbD_zero d)
  have hrearmed : ∀ i, ((k.iter c b).pulses.get i).a = true →
      rearms c b k i = true ∧ ((k.iter c b).pulses.get i).s = k.tick := by
    intro i hi
    obtain ⟨-, hr | ⟨hhigh, -⟩⟩ := high_after_iter c b k hi
    · exact hr
    · rw [k.pulse_of_untouched hu i] at hhigh
      cases hhigh
  refine ⟨iter_shown_of_gated c b k hg (.inl (k.prevBand_of_untouched hu)),
    pairsExclusive_iter_of_rearmed c b k fun i hi => (hrearmed i hi).1, fun i hi => ?_⟩
  have hs := (hrearmed i hi).2
  have hexp := (high_after_iter c b k hi).1
  rw [hs] at hexp
  unfold Block.Young Block.age
  rw [iter_lastTick, hs, iter_deb_of_gated c b hg, BitVec.sub_self, BitVec.lt_def, toNat_delta]
  refine ⟨Nat.zero_le _, hexp, fun _ => .inr ⟨?_, by omega⟩⟩
  cases b with
  | true => simp [lowestSetBit_debShift_true]
  | false => simp [lowestSetBit_debShift_false hwf, hdeb]

end

/-! ### The cadence invariant (R97, R132) -/

section
variable (m : Cadence)

@[simp] theorem Cadence.unseen_after_iter (b : Level) : (m.after (.iter b)).unseen = 0 := rfl

@[simp] theorem Cadence.unseen_after_tick : (m.after .tick).unseen = 1 := rfl

/-- A TICK keeps the cadence where it was kept and the TICK before it was seen. -/
theorem Cadence.after_tick_kept (h : (m.after .tick).kept = true) : m.kept = true ∧ m.unseen = 0 := by
  simp only [after, Bool.and_eq_true, Bool.not_eq_true'] at h
  exact ⟨h.1, by simp [unseen, h.2]⟩

theorem Cadence.toNat_unseen_le : m.unseen.toNat ≤ 1 := by
  unfold unseen
  split_ifs <;> decide

end

section
variable {c : Config} {d : Byte} {m : Cadence} {k : Block}

/-- A tick after a seen one keeps the block paced. -/
theorem Block.paced_tick (hm : m.unseen = 0) (h : k.Paced m c) :
    (k.setTick (k.tick + 1)).Paced (m.after .tick) c := by
  obtain ⟨hpairs, hk | ⟨hshown, htick, hy⟩⟩ := h
  · refine ⟨hpairs, .inl ?_⟩
    rw [hk, hm]
    rfl
  · refine ⟨hpairs, .inr ⟨hshown, ?_, hy⟩⟩
    rw [Cadence.unseen_after_tick, setTick_tick, setTick_lastTick, htick, hm, add_zero]

/-- An ITER keeps the block paced. -/
theorem Block.paced_iter (hc : c = Config.debDefaults d) (hd : d ≤ 11) (b : Level) (h : k.Paced m c) :
    (k.iter c b).Paced (m.after (.iter b)) c := by
  have htickAfter : (k.iter c b).tick = (k.iter c b).lastTick + (m.after (.iter b)).unseen := by simp
  obtain ⟨hpairs, hk | ⟨hshown, htick, hy⟩⟩ := h
  · have hu : k.untouched c := by
      rw [hk]
      rfl
    have hle : k.tick.toNat ≤ 1 := by
      rw [hk]
      exact m.toNat_unseen_le
    obtain ⟨hshown, hpairs, hy⟩ := pairs_and_young_iter_of_untouched hc hd b hu hle
    exact ⟨hpairs, .inr ⟨hshown, htickAfter, hy⟩⟩
  · cases hg : k.gated with
    | true =>
      have hunseen : m.unseen = 1 := by
        unfold Cadence.unseen at htick ⊢
        split_ifs with hp
        · rfl
        · rw [if_neg hp, add_zero] at htick
          exact absurd htick ((gated_iff k).1 hg)
      obtain ⟨hpairs, hy⟩ := pairs_and_young_iter_of_gated hc hd b hg hshown (hunseen ▸ htick) hpairs hy
      exact ⟨hpairs, .inr ⟨iter_shown_of_gated c b k hg (.inr hshown), htickAfter, hy⟩⟩
    | false =>
      have hsame : k.iter c b = k := iter_eq_self c b k hg fun i hi => by
        obtain ⟨-, hexp, -⟩ := hy i hi
        rwa [(not_gated_iff k).1 hg]
      rw [hsame] at htickAfter ⊢
      exact ⟨hpairs, .inr ⟨hshown, htickAfter, hy⟩⟩

end

/-- RESET leaves a paced block. -/
theorem Block.paced_atReset (c : Config) : (Block.atReset c).Paced { kept := true, pending := false } c :=
  ⟨rfl, .inl rfl⟩

/-- Every operation keeps the cadence invariant. -/
theorem State.cadenceInv_after (i : Instr) {m : Cadence} {s : State} (h : s.CadenceInv m) :
    (s.after i).CadenceInv (m.after i) := by
  obtain ⟨hc, hd, hdeb, hpaced⟩ := h
  refine ⟨hc, hd, effect_deb_and_debMask s.block (hc ▸ Config.wf_debDefaults _) i hdeb, fun hkept => ?_⟩
  cases i with
  | iter b => exact Block.paced_iter hc hd b (hpaced hkept)
  | tick =>
    obtain ⟨hkept, hunseen⟩ := m.after_tick_kept hkept
    exact Block.paced_tick hunseen (hpaced hkept)
  | reset => exact Block.paced_atReset s.cfg

/-- Settles O57: the state an operation answers is `s.after i`, and a paced block has exclusive pairs. -/
theorem everyOperationKeepsTheCadenceInvariant : Obligations.EveryOperationKeepsTheCadenceInvariant :=
  ⟨fun i _ s h => ⟨s.after i, exec_eq_after i s, State.cadenceInv_after i h⟩, fun _ _ ⟨_, _, _, hpaced⟩ hkept =>
    (hpaced hkept).1⟩

/-- The power-on state meets the cadence invariant. -/
theorem State.cadenceInv_powerOn {d : Byte} (hd : d ≤ 11) :
    (State.powerOn (Config.debDefaults d)).CadenceInv { kept := true, pending := false } :=
  ⟨rfl, hd, Config.debSeed_and_debMask (Config.wf_debDefaults d), fun _ => Block.paced_atReset _⟩

/-- Settles O59: the reset block holds the seed, and it is paced. -/
theorem historyAndCadenceInvariantsHoldAtReset : Obligations.HistoryAndCadenceInvariantsHoldAtReset :=
  ⟨fun _ hc => State.holdsSamples_of_atReset hc rfl, fun _ => State.cadenceInv_powerOn⟩

/-- A list of operations keeps the cadence invariant. -/
theorem execAll_cadenceInv (is : List Instr) {m : Cadence} {s : State} (h : s.CadenceInv m) :
    ∃ t, execAll is s = .next t ∧ t.CadenceInv (is.foldl Cadence.after m) := by
  induction is generalizing m s with
  | nil => exact ⟨s, rfl, h⟩
  | cons i is ih =>
    rw [execAll_cons]
    exact ih (State.cadenceInv_after i h)

/-- Settles O37: the invariant holds at reset and after every list of operations; where the cadence is kept it gives
exclusive pairs. -/
theorem pairsAreExclusiveUnderTheCadence : Obligations.PairsAreExclusiveUnderTheCadence := by
  intro d is hd hkept
  obtain ⟨t, ht, -, -, -, hpaced⟩ := execAll_cadenceInv is (State.cadenceInv_powerOn hd)
  exact ⟨t, ht, (hpaced hkept).1⟩

end Sys2Proof.Machine
end

section
/-! Proofs for lists of TICKs and ITERs (40_step R61 to R70; 70_reset R128, R133): TICKs add up modulo 256, ITERs with no TICK
between them add nothing, unseen TICKs change nothing, RESET discards what was before; and for the flags (10_state R27). -/

namespace Sys2Proof.Machine

/-! ### TICKs add up (R70) -/

/-- `n` TICKs add `n` to the 8-bit counter and do nothing else. -/
theorem execAll_ticks (n : Nat) (s : State) :
    execAll (List.replicate n .tick) s = .next (s.setBlock (s.block.setTick (s.block.tick + BitVec.ofNat 8 n))) := by
  induction n generalizing s with
  | zero => simp
  | succ n ih =>
    have hadd : s.block.tick + 1 + BitVec.ofNat 8 n = s.block.tick + BitVec.ofNat 8 (n + 1) := by
      rw [BitVec.ofNat_add, add_assoc, add_comm (1 : Byte)]
      rfl
    rw [List.replicate_succ, execAll_cons, ih, ← hadd]
    rfl

theorem byte_add_ofNat (t : Byte) (n : Nat) : t + BitVec.ofNat 8 n = BitVec.ofNat 8 ((t.toNat + n) % 256) := by
  apply BitVec.eq_of_toNat_eq
  simp

/-- Only the number of ticks modulo 256 counts. -/
theorem byte_ofNat_congr {m n : Nat} (h : m % 256 = n % 256) : BitVec.ofNat 8 m = BitVec.ofNat 8 n :=
  BitVec.eq_of_toNat_eq (by simpa using h)

/-- Settles O17: the sum, and that 256 more TICKs leave it. -/
theorem ticksAddModulo256 : Obligations.TicksAddModulo256 := by
  intro k s
  refine ⟨?_, ?_⟩
  · rw [execAll_ticks, byte_add_ofNat]
    rfl
  · rw [execAll_ticks, execAll_ticks, byte_ofNat_congr (Nat.add_mod_right k 256)]

/-! ### ITERs with no TICK between them (R69) -/

/-- After an ITER no high pulse is expired at its tick, so another ITER changes nothing. -/
theorem iter_iter (c : Config) (b later : Level) (k : Block) : (k.iter c b).iter c later = k.iter c b := by
  refine iter_eq_self c later _ (iter_gated_after c b k) fun i hi => ?_
  rw [iter_tick]
  exact (high_after_iter c b k hi).1

theorem State.after_iter_after_iter (b later : Level) (s : State) :
    (s.after (.iter b)).after (.iter later) = s.after (.iter b) :=
  after_eq_self (iter_iter s.cfg b later s.block)

/-- Any number of ITERs after an ITER changes nothing. -/
theorem execAll_iters_after_iter (b : Level) (bs : List Level) (s : State) :
    execAll (bs.map .iter) (s.after (.iter b)) = .next (s.after (.iter b)) := by
  induction bs with
  | nil => rfl
  | cons later bs ih => rw [List.map_cons, execAll_cons, State.after_iter_after_iter, ih]

/-- Settles O20: `iter_iter` along the list; a gated ITER closes the gate, so the state is another one. -/
theorem itersWithoutATickAddNothing : Obligations.ItersWithoutATickAddNothing := by
  refine ⟨fun b bs s => ?_, fun b later s hg => ?_⟩
  · rw [execAll_cons, execAll_iters_after_iter, exec_eq_after]
  · have hclosed : (s.after (.iter b)).block.gated = false := iter_gated_after s.cfg b s.block
    refine ⟨s.after (.iter b), exec_eq_after _ s, fun hsame => ?_, hclosed,
      (exec_eq_after _ _).trans (congrArg _ (State.after_iter_after_iter b later s))⟩
    rw [hsame, hg] at hclosed
    cases hclosed

/-! ### The gate after some TICKs (R68), and unseen TICKs (R133) -/

theorem byte_add_ofNat_eq_self_iff (t : Byte) (n : Nat) : t + BitVec.ofNat 8 n = t ↔ n % 256 = 0 := by
  rw [add_eq_left]
  exact ⟨fun h => by simpa using congrArg BitVec.toNat h, fun h => byte_ofNat_congr (n := 0) (by simpa using h)⟩

/-- Settles O21: the ITER leaves its tick in `LAST_TICK`, and the TICKs move the counter away from it modulo 256. -/
theorem nextIterIsGatedIffTicksChanged : Obligations.NextIterIsGatedIffTicksChanged := by
  intro b k s _
  refine ⟨_, (execAll_cons _ _ s).trans (execAll_ticks k _), ?_⟩
  have htick := iter_tick s.cfg b s.block
  have hlast := iter_lastTick s.cfg b s.block
  rw [gated_iff, State.setBlock_block, Block.setTick_tick, Block.setTick_lastTick, State.after_block, effect_iter, htick,
    hlast, ne_eq, byte_add_ofNat_eq_self_iff]

/-- Settles O48: the TICKs come back to the counter's value, and the ITER finds the gate closed and no pulse expired. -/
theorem unseenTicksChangeNothing : Obligations.UnseenTicksChangeNothing := by
  intro m b s hgate hp
  have hticks : execAll (List.replicate (256 * m) .tick) s = .next s := by
    rw [execAll_ticks, (byte_add_ofNat_eq_self_iff _ _).2 (Nat.mul_mod_right 256 m)]
    rfl
  have hiter : s.after (.iter b) = s := State.after_eq_self (iter_eq_self s.cfg b s.block ((not_gated_iff _).2 hgate) hp)
  rw [execAll_append _ _ s s hticks, execAll_cons, execAll_nil, hiter]

/-! ### RESET (R128) -/

/-- Settles O50: RESET answers the reset block whatever block it finds. -/
theorem resetDiscardsTheOperationsBefore : Obligations.ResetDiscardsTheOperationsBefore := by
  intro is s
  rw [execAll_append_eq, execAll_cons, execAll_nil, exec_reset]
  rfl

/-! ### A second dispatch (R96) -/

/-- Settles O34: the first dispatch records the band it leaves. -/
theorem dispatchIsIdempotent : Obligations.DispatchIsIdempotent := by
  intro now later k
  obtain ⟨-, -, -, hband, hprev, -⟩ := dispatch_frame k now
  exact Block.dispatch_same later _ (hprev.trans (congrArg _ hband.symm))

/-! ### Flags (R24, R27) -/

section
variable (c : Config) (i : Instr) (k : Block) (p : PulseId)

/-- A flag goes high only where an ITER arms the pulse. -/
theorem rearms_of_flag_set (hlow : (k.pulses.get p).a = false) (hhigh : ((effect c i k).pulses.get p).a = true) :
    ∃ b, i = .iter b ∧ rearms c b k p = true := by
  cases i with
  | iter b =>
    obtain ⟨-, ⟨hr, -⟩ | ⟨ha, -⟩⟩ := high_after_iter c b k hhigh
    · exact ⟨b, rfl, hr⟩
    · rw [hlow] at ha
      cases ha
  | tick =>
    rw [effect_tick, Block.setTick_pulses, hlow] at hhigh
    cases hhigh
  | reset =>
    rw [effect_reset, Block.atReset_pulse_a] at hhigh
    cases hhigh

/-- A high flag goes low only by RESET or where an ITER's test holds. -/
theorem expired_of_flag_cleared (hhigh : (k.pulses.get p).a = true) (hlow : ((effect c i k).pulses.get p).a = false) :
    i = .reset ∨ (∃ b, i = .iter b) ∧ expired c ((effect c i k).pulses.get p).s k.tick = true := by
  cases i with
  | iter b =>
    refine .inr ⟨⟨b, rfl⟩, ?_⟩
    rw [effect_iter, iter_pulse] at hlow ⊢
    rw [Pulse.expire_s]
    split_ifs at hlow ⊢ <;> simpa [hhigh] using hlow
  | tick =>
    rw [effect_tick, Block.setTick_pulses, hhigh] at hlow
    cases hlow
  | reset => exact .inl rfl

end

/-- Settles O23: the two changes of a flag by the operation, RESET's flags, and the flag's line. -/
theorem flagsChangeOnlyByArmExpireAndReset : Obligations.FlagsChangeOnlyByArmExpireAndReset := by
  intro i s p
  refine ⟨s.after i, exec_eq_after i s, fun hlow hhigh => ?_, expired_of_flag_cleared s.cfg i s.block p, ?_,
    Block.port_getLsbD_index _ p⟩
  · obtain ⟨b, rfl, hr⟩ := rearms_of_flag_set s.cfg i s.block p hlow hhigh
    obtain ⟨hg, hp⟩ := dispatches_of_rearms s.cfg b s.block hr
    have hband : (s.after (.iter b)).block.band = bandAfter s.cfg b s.block := by simp [iter_band, hg]
    rw [hband]
    exact ⟨⟨b, rfl⟩, hg, hp, rearms_eq_of_dispatches s.cfg b s.block ⟨hg, hp⟩ p ▸ hr⟩
  · rintro rfl
    exact Block.atReset_pulse_a s.cfg p

end Sys2Proof.Machine
end

section
/-! Proofs for the first gated ITER since RESET (42_dispatch R94) and, from it, the stream under which a duration of 12 or more
breaks pair exclusivity (R97): the first dispatch arms R34-reset, and the press that begins with it arms R34-set 11 ticks
later. -/

namespace Sys2Proof.Machine

/-! ### The first gated ITER (R94) -/

section
variable (c : Config) (b : Level) {k : Block} (hu : k.untouched c) (hg : k.gated = true)
include hu hg

theorem band_of_first_iter : (k.iter c b).band = if debShift c b c.debSeed = c.debTrigger then .m20 else .m40 := by
  rw [iter_band, if_pos hg, bandAfter, k.deb_of_untouched hu, k.band_of_untouched hu]
  rfl

/-- The first gated ITER arms exactly the pulses of the row of the band it leaves. -/
theorem rearms_of_first_iter (i : PulseId) : rearms c b k i = armedBy (k.iter c b).band i := by
  have hd : dispatches c b k := ⟨hg, by rw [k.prevBand_of_untouched hu]; exact nofun⟩
  rw [rearms_eq_of_dispatches c b k hd, iter_band, if_pos hg]

/-- After the first gated ITER no pulse is high but its row's; those carry its tick, and are high where the duration is at
least 1. -/
theorem pulses_of_first_iter (i : PulseId) :
    (((k.iter c b).pulses.get i).a = true → armedBy (k.iter c b).band i = true)
      ∧ (armedBy (k.iter c b).band i = true →
          ((k.iter c b).pulses.get i).s = k.tick ∧ (1 ≤ c.pulseD → ((k.iter c b).pulses.get i).a = true)) := by
  rw [← rearms_of_first_iter c b hu hg]
  refine ⟨fun ha => ?_, fun hr => ?_⟩
  · obtain ⟨-, ⟨hr, -⟩ | ⟨hhigh, -⟩⟩ := high_after_iter c b k ha
    · exact hr
    · rw [k.pulse_of_untouched hu i] at hhigh
      cases hhigh
  · rw [iter_pulse_of_rearms c b k hr]
    exact ⟨rfl, fun hd => by simp [not_expired_self c k.tick hd]⟩

end

/-- The state after `n` TICKs from reset. -/
def ticked (c : Config) (n : Nat) : State :=
  (State.powerOn c).setBlock ((Block.atReset c).setTick (BitVec.ofNat 8 n))

section
variable (c : Config) (n : Nat)

theorem execAll_ticks_powerOn : execAll (List.replicate n .tick) (State.powerOn c) = .next (ticked c n) := by
  rw [execAll_ticks, State.powerOn_block, Block.atReset_tick, zero_add]
  rfl

theorem ticked_untouched : (ticked c n).block.untouched c := rfl

theorem ticked_tick : (ticked c n).block.tick = BitVec.ofNat 8 n := rfl

/-- The gate is open but at the tick before the counter comes back to 0. -/
theorem ticked_gated_iff : (ticked c n).block.gated = true ↔ n % 256 ≠ 255 := by
  have hlast : BitVec.ofNat 8 n = 255 ↔ n % 256 = 255 :=
    ⟨fun h => by simpa using congrArg BitVec.toNat h, fun h => byte_ofNat_congr (n := 255) h⟩
  rw [gated_iff, (ticked c n).block.lastTick_of_untouched (ticked_untouched c n), ticked_tick, ne_eq, hlast]

/-- Under the default debounce parameters the first sample does not trigger. -/
theorem debShift_debSeed_ne_debTrigger (d : Byte) (b : Level) :
    debShift (Config.debDefaults d) b (Config.debDefaults d).debSeed ≠ (Config.debDefaults d).debTrigger := by
  rw [ne_eq, debShift_eq_debTrigger_iff (Config.wf_debDefaults d),
    lowestSetBit_eq_zero _ (Config.debSeed_debDefaults_getLsbD_zero d), Config.debN_debDefaults]
  omega

end

/-- Settles O36: the TICKs, the gate, and what the first gated ITER leaves; under the default debounce parameters its band is
band 0. -/
theorem firstGatedIterDispatchesBandZero : Obligations.FirstGatedIterDispatchesBandZero := by
  refine ⟨fun d k b => ?_, fun c k b hk => ?_⟩
  · have hu := ticked_untouched (Config.debDefaults d) k
    refine ⟨ticked _ k, _, execAll_ticks_powerOn _ k, exec_eq_after _ _, fun hk => ?_, fun hk => ?_⟩
    · have hg : (ticked (Config.debDefaults d) k).block.gated = false := by
        rw [← Bool.not_eq_true, ticked_gated_iff]
        exact fun h => h hk
      exact State.after_eq_self (iter_of_untouched b hg hu)
    · have hg := (ticked_gated_iff (Config.debDefaults d) k).2 hk
      have hband := band_of_first_iter _ b hu hg
      rw [if_neg (debShift_debSeed_ne_debTrigger d b)] at hband
      obtain ⟨hprev, hind⟩ := iter_shown_of_gated _ b _ hg (.inl (Block.prevBand_of_untouched hu))
      rw [hband] at hprev hind
      obtain ⟨h15, h20⟩ := Prod.mk.inj hind
      have hpulses := pulses_of_first_iter _ b hu hg
      rw [hband] at hpulses
      exact ⟨hband, hprev, h15, h20, hpulses⟩
  · have hu := ticked_untouched c k
    have hg := (ticked_gated_iff c k).2 hk
    obtain ⟨hprev, hind⟩ := iter_shown_of_gated c b _ hg (.inl (Block.prevBand_of_untouched hu))
    exact ⟨ticked c k, _, execAll_ticks_powerOn c k, exec_eq_after _ _, band_of_first_iter c b hu hg, hprev, hind,
      pulses_of_first_iter c b hu hg⟩

/-! ### A duration of 12 or more (R97) -/

/-- Pulse `i` is high and at most `n` ticks old. -/
def State.HighWithin (i : PulseId) (n : Nat) (s : State) : Prop :=
  (s.block.pulses.get i).a = true ∧ (s.block.tick - (s.block.pulses.get i).s).toNat ≤ n

/-- A pulse younger than the duration is still high a tick later. -/
theorem State.highWithin_afterTickIter {i : PulseId} {n : Nat} {s : State} (b : Level) (hn : n + 1 < s.cfg.pulseD.toNat)
    (hs : s.HighWithin i n) : (s.afterTickIter b).HighWithin i (n + 1) := by
  obtain ⟨ha, hage⟩ := hs
  have hD := s.cfg.pulseD.isLt
  have hage' := toNat_age_add_one (now := s.block.tick) (start := (s.block.pulses.get i).s) (by omega)
  unfold HighWithin
  rw [afterTickIter_tick, afterTickIter_block]
  cases hr : rearms s.cfg b (s.block.setTick (s.block.tick + 1)) i with
  | true =>
    rw [iter_pulse_of_rearms _ _ _ hr]
    refine ⟨?_, by simp⟩
    rw [not_expired_of_age_lt _ (by simp; omega)]
    rfl
  | false =>
    have hexp : expired s.cfg (s.block.pulses.get i).s (s.block.tick + 1) = false :=
      not_expired_of_age_lt _ (by omega)
    rw [iter_pulse_of_not_rearms _ _ _ hr, Block.setTick_pulses, Block.setTick_tick, Pulse.expire_of_not_expired _ _ hexp]
    exact ⟨ha, by omega⟩

theorem execAll_tickIter (b : Level) (s : State) : execAll (tickIter b) s = .next (s.afterTickIter b) := rfl

/-- The state after one pressed sample from reset. -/
def pressedOnce (d : Byte) : State := (State.powerOn (Config.debDefaults d)).afterTickIter false

/-- The press that began with the sample of `pressedOnce` has gone on for `n` samples: they are in `DEB`, and R34-reset, which
that sample armed, is still high. -/
structure State.PressGoesOn (d : Byte) (n : Nat) (s : State) (h : History) : Prop where
  held : s.HeldFor (Config.debDefaults d) 1 .m40 .fresh n h
  high : s.HighWithin .r34Reset n
  inv : s.Inv

section
variable {d : Byte} (hd : 12 ≤ d)
include hd

theorem pressGoesOn_pressedOnce : (pressedOnce d).PressGoesOn d 0 .fresh := by
  have hu : ((State.powerOn (Config.debDefaults d)).after .tick).block.untouched (Config.debDefaults d) := rfl
  have hg : ((State.powerOn (Config.debDefaults d)).after .tick).block.gated = true := rfl
  have hband : (pressedOnce d).block.band = .m40 :=
    (band_of_first_iter (Config.debDefaults d) false hu hg).trans (if_neg (debShift_debSeed_ne_debTrigger d false))
  have hlow : lowestSetBit (pressedOnce d).block.deb = 1 := by
    rw [pressedOnce, State.afterTickIter, State.after_block, effect_iter, iter_deb_of_gated _ _ hg, State.after_cfg,
      State.powerOn_cfg, lowestSetBit_debShift_false (Config.wf_debDefaults d), Block.deb_of_untouched hu,
      lowestSetBit_eq_zero _ (Config.debSeed_debDefaults_getLsbD_zero d)]
    simp
  obtain ⟨hstart, hhigh⟩ : ((pressedOnce d).block.pulses.get .r34Reset).s = 1
      ∧ (1 ≤ d → ((pressedOnce d).block.pulses.get .r34Reset).a = true) :=
    (pulses_of_first_iter (Config.debDefaults d) false hu hg .r34Reset).2 (congrArg (armedBy · .r34Reset) hband)
  have htick : (pressedOnce d).block.tick = 1 := iter_tick _ _ _
  have hheld := State.heldFor_zero (s := pressedOnce d) .fresh rfl (by simp [pressedOnce]) (by rw [hlow]; omega)
  rw [hlow, hband] at hheld
  exact ⟨hheld, ⟨hhigh (BitVec.le_trans (by decide) hd), by rw [htick, hstart]; decide⟩,
    State.inv_after _ (State.inv_after _ (State.inv_powerOn (Config.wf_debDefaults d)))⟩

omit hd in
theorem State.pressGoesOn_afterTickIter {n : Nat} {s : State} {h : History} (hn : n + 1 < d.toNat)
    (hs : s.PressGoesOn d n h) :
    (s.afterTickIter false).PressGoesOn d (n + 1) (h.note (.iter false) (s.after .tick)) := by
  obtain ⟨hheld, hhigh, hinv⟩ := hs
  have hpulseD : s.cfg.pulseD = d := by rw [hheld.cfg_eq]; rfl
  exact ⟨heldFor_afterTickIter (Config.wf_debDefaults d) hheld, highWithin_afterTickIter false (by rwa [hpulseD]) hhigh,
    inv_after _ (inv_after _ hinv)⟩

/-- A pressed sample that triggers in band 0, 11 ticks after R34-reset was armed, leaves both members of the pair high. -/
theorem pair_high_after_trigger {s : State} {h : History} (hs : s.PressGoesOn d 10 h) :
    (s.afterTickIter false).block.pairsExclusive = false := by
  obtain ⟨⟨hcfg, hgate, hlow, hband, -⟩, hreset, hwf, -, -, hshows⟩ := hs
  have hd' : 12 ≤ d.toNat := hd
  have hpulseD : s.cfg.pulseD = d := by rw [hcfg]; rfl
  have hN := Config.debN_debDefaults d
  replace hlow : lowestSetBit s.block.deb = 11 := by rw [hlow, hN]; rfl
  replace hband : s.block.band = .m40 := hband.trans (if_neg (by omega))
  have hg := s.gated_after_tick hgate
  have hafter : bandAfter s.cfg false (s.after .tick).block = .m20 := by
    have ht : debShift s.cfg false s.block.deb = s.cfg.debTrigger := by
      rw [debShift_eq_debTrigger_iff hwf, hlow, hcfg, hN]
      exact ⟨rfl, rfl⟩
    exact (if_pos ht).trans (congrArg Band.next hband)
  have hprev : s.block.prevBand ≠ .dispatched .m20 := by
    obtain hu | hshown := hshows
    · rw [s.block.prevBand_of_untouched hu]
      exact nofun
    · rw [hshown.1, hband]
      decide
  have hr : rearms s.cfg false (s.after .tick).block .r34Set = true := by
    rw [rearms_eq_of_dispatches _ _ _ ⟨hg, by rw [hafter]; exact hprev⟩, hafter]
    rfl
  have hset : ((s.afterTickIter false).block.pulses.get .r34Set).a = true := by
    rw [State.afterTickIter, State.after_block, effect_iter, State.after_cfg, iter_pulse_of_rearms _ _ _ hr,
      not_expired_of_age_lt _ (by rw [BitVec.sub_self, hpulseD]; exact Nat.lt_of_lt_of_le (by decide) hd')]
    rfl
  obtain ⟨hreset, -⟩ := State.highWithin_afterTickIter false (by rw [hpulseD]; omega) hreset
  rw [← Bool.not_eq_true, Block.pairsExclusive_iff]
  intro h
  have hpartner := h .r34Set hset
  rw [PulseId.partner, hreset] at hpartner
  cases hpartner

end

/-- Settles O38: twelve pressed samples from reset, one a tick: the first arms R34-reset, and the last, 11 ticks later,
R34-set. -/
theorem twelveOrMoreTicksBreakPairExclusivity : Obligations.TwelveOrMoreTicksBreakPairExclusivity := by
  intro d hd
  have hd' : 12 ≤ d.toNat := hd
  have hfirst : execAll (tickIter false) (State.powerOn (Config.debDefaults d)) = .next (pressedOnce d) := rfl
  obtain ⟨t, ht, hpress⟩ := execAll_tickIters_induction (P := State.PressGoesOn d) (List.replicate 10 false) 0
    (pressedOnce d) .fresh (pressGoesOn_pressedOnce hd) fun b hb m s h hm hs => by
      rw [List.length_replicate] at hm
      rw [List.eq_of_mem_replicate hb]
      exact State.pressGoesOn_afterTickIter (by omega) hs
  refine ⟨tickIter false ++ (tickIters (List.replicate 10 false) ++ tickIter false), t.afterTickIter false, by decide,
    ?_, pair_high_after_trigger hd hpress⟩
  rw [execAll_append _ _ _ _ hfirst, execAll_append _ _ _ _ ht, execAll_tickIter]

end Sys2Proof.Machine
end

section
/-! Proofs for the encodings of 30_encoding: the decoder against the encoder and the opcode map (R48, R59, R60), the field
numbers (10_state R28), and the 12-byte state image (R56). -/

namespace Sys2Proof.Machine

/-! ### Decoder and encoder (R48, R59) -/

/-- A word is its two fields. -/
theorem opField_append_bField : ∀ w : CommandWord, opField w ++ BitVec.ofBool (bField w) = w := by
  decide

/-- The mask of the opcode map keeps the `OP` field. -/
theorem and_opMask : ∀ w : CommandWord, w &&& 0b110 = opField w ++ 0b0#1 := by
  decide

/-- The encoder writes the operation's `OP` value, and the decoder reads it back. -/
theorem decode_encode (i : Instr) : decode (encode i) = .operation i := by
  cases i with
  | iter b => cases b <;> rfl
  | tick => rfl
  | reset => rfl

/-- The operation's `OP` value. -/
def opOf : Instr → BitVec 2
  | .iter _ => 0b00
  | .tick => 0b01
  | .reset => 0b10

theorem row_eq (i : Instr) : i.row = { matchBits := opOf i ++ 0b0#1, mask := 0b110 } := by
  cases i <;> simp [Instr.row, opOf]

/-- What decodes to an operation has its `OP` value. -/
theorem opField_of_decode {w : CommandWord} {i : Instr} (h : decode w = .operation i) : opField w = opOf i := by
  unfold decode at h
  split_ifs at h with h0 h1 h2
  all_goals cases h
  · exact h0
  · exact h1
  · exact h2

/-- A decoded sample is the `B` field. -/
theorem bField_of_decode {w : CommandWord} {b : Level} (h : decode w = .operation (.iter b)) : bField w = b := by
  rw [decode_of_opField_iter w (opField_of_decode h)] at h
  cases h
  rfl

/-- The word without its `B` field is the `OP` value of what it decodes to. -/
theorem and_opMask_of_decode {w : CommandWord} {i : Instr} (h : decode w = .operation i) :
    w &&& 0b110 = opOf i ++ 0b0#1 := by
  rw [and_opMask, opField_of_decode h]

/-- Settles O2: `decode_encode`, and a decoded word put together again from its fields. -/
theorem decodeAndEncodeAgree : Obligations.DecodeAndEncodeAgree := by
  refine ⟨fun i => ⟨by cases i <;> rfl, ?_, decode_encode i⟩, fun w b h => ?_,
    fun w h => (and_opMask_of_decode h).symm, fun w h => (and_opMask_of_decode h).symm⟩
  · cases i with
    | iter b => cases b <;> rfl
    | tick => rfl
    | reset => rfl
  · calc encode (.iter b)
      _ = opField w ++ BitVec.ofBool (bField w) := by rw [opField_of_decode h, bField_of_decode h]; rfl
      _ = w := opField_append_bField w

/-! ### The opcode map (R60) -/

theorem row_mem_opcodeMap (i : Instr) : i.row ∈ opcodeMap := by
  rw [row_eq]
  cases i <;> (rw [opOf]; decide)

/-- A word that decodes to an operation lies in that operation's row. -/
theorem row_holds_of_decode {w : CommandWord} {i : Instr} (h : decode w = .operation i) : i.row.holds w = true := by
  rw [OpcodeRow.holds, row_eq, and_opMask_of_decode h, beq_self_eq_true]

/-- The number of rows that hold a word, by its `OP` field. -/
theorem length_filter_opcodeMap : ∀ w : CommandWord,
    (opcodeMap.filter fun r => r.holds w).length = if opField w = 0b11 then 0 else 1 := by
  decide

/-- Settles O4: the map's rows by the `OP` field, which is 3 exactly in the reserved words. -/
theorem opcodeMapRowsDoNotOverlap : Obligations.OpcodeMapRowsDoNotOverlap := by
  intro w
  refine ⟨?_, fun i h => ⟨row_mem_opcodeMap i, row_holds_of_decode h⟩⟩
  rw [length_filter_opcodeMap]
  exact if_congr (opField_eq_reserved_iff w) rfl rfl

/-! ### The numbered fields (R28) -/

/-- The field of a number. -/
def Field.ofNumber : Nat → Option Field
  | 0 => some .tick
  | 1 => some .lastTick
  | 2 => some .deb
  | 3 => some .band
  | 4 => some .prevBand
  | 5 => some .pflags
  | 6 => some (.start .r12Set)
  | 7 => some (.start .r12Reset)
  | 8 => some (.start .r34Set)
  | 9 => some (.start .r34Reset)
  | 10 => some .ind
  | _ => none

theorem Field.ofNumber_number (f : Field) : ofNumber f.number = some f := by
  cases f with
  | start i => cases i <;> rfl
  | tick | lastTick | deb | band | prevBand | pflags | ind => rfl

theorem Field.number_injective {f g : Field} (h : f.number = g.number) : f = g := by
  rw [← Option.some_inj, ← ofNumber_number f, ← ofNumber_number g, h]

theorem Field.number_le (f : Field) : f.number ≤ 10 := by
  cases f with
  | start i => cases i <;> decide
  | tick | lastTick | deb | band | prevBand | pflags | ind => decide

/-- A value extended with zeros keeps its bound. -/
theorem toNat_setWidth_lt {n : Nat} (v : BitVec n) (m : Nat) : (v.setWidth m).toNat < 2 ^ n := by
  rw [BitVec.toNat_setWidth]
  exact Nat.lt_of_le_of_lt (Nat.mod_le _ _) v.isLt

theorem Block.field_lt (k : Block) (f : Field) : (k.field f).toNat < 2 ^ f.bits := by
  cases f with
  | deb => exact k.deb.isLt
  | tick | lastTick | band | prevBand | pflags | start | ind => exact toNat_setWidth_lt _ 16

theorem Block.field_band_ne (k : Block) : k.field .band ≠ 3 := by
  rw [field]
  cases k.band <;> decide

/-- Settles O9: the numbering has an inverse, a value keeps its width, and no band has code 3. -/
theorem numberedFieldsFitTheirWidths : Obligations.NumberedFieldsFitTheirWidths :=
  ⟨fun _ _ => Field.number_injective, Field.number_le, Block.field_lt, Block.field_band_ne⟩

/-! ### Reading a byte of the image (R53, R56) -/

theorem Band.ofByte_eq_some_iff (v : Byte) (b : Band) : Band.ofByte v = some b ↔ v = b.code.setWidth 8 := by
  unfold ofByte
  constructor
  · split_ifs with h0 h1 h2
    all_goals
      intro h
      cases h
    · exact h0
    · exact h1
    · exact h2
  · rintro rfl
    cases b <;> rfl

theorem PrevBand.ofByte_eq_some_iff (v : Byte) (p : PrevBand) : PrevBand.ofByte v = some p ↔ v = p.code.setWidth 8 := by
  unfold ofByte
  constructor
  · split_ifs with h3
    · intro h
      cases h
      exact h3
    · rw [Option.map_eq_some_iff]
      rintro ⟨b, hb, rfl⟩
      exact (Band.ofByte_eq_some_iff v b).1 hb
  · rintro rfl
    cases p with
    | dispatched b => cases b <;> rfl
    | sentinel => rfl

/-- A byte is no band's where it is 3 or has a bit above the field's 2. -/
theorem Band.ofByte_eq_none_iff (v : Byte) : Band.ofByte v = none ↔ v = 3 ∨ 2 ^ 2 ≤ v.toNat := by
  unfold ofByte
  split_ifs with h0 h1 h2
  · simp [h0]
  · simp [h1]
  · simp [h2]
  · simp only [true_iff]
    bv_omega

theorem PrevBand.ofByte_eq_none_iff (v : Byte) : PrevBand.ofByte v = none ↔ 2 ^ 2 ≤ v.toNat := by
  have h3 : BitVec.ofNat 8 prevSentinel = (3 : Byte) := rfl
  unfold ofByte
  rw [h3]
  split_ifs with h
  · simp [h]
  · rw [Option.map_eq_none_iff, Band.ofByte_eq_none_iff, or_iff_right h]

/-- The bits of a byte above the low `n` are 0 where its value is below `2 ^ n`. -/
theorem highBits_eq_zero_iff (v : Byte) {n m : Nat} (h : n + m = 8) : v.extractLsb' n m = 0 ↔ v.toNat < 2 ^ n := by
  have hlt : v.toNat < 2 ^ n * 2 ^ m := by
    rw [← pow_add, h]
    exact v.isLt
  rw [← BitVec.toNat_inj, BitVec.extractLsb'_toNat, Nat.shiftRight_eq_div_pow,
    Nat.mod_eq_of_lt (Nat.div_lt_of_lt_mul hlt)]
  simp [Nat.div_eq_zero_iff]

/-- A byte below `2 ^ n` is its low `n` bits. -/
theorem setWidth_setWidth_of_lt (v : Byte) {n : Nat} (h : v.toNat < 2 ^ n) : (v.setWidth n).setWidth 8 = v := by
  apply BitVec.eq_of_toNat_eq
  rw [BitVec.toNat_setWidth, BitVec.toNat_setWidth, Nat.mod_eq_of_lt h, Nat.mod_eq_of_lt v.isLt]

/-! ### `PFLAGS` and `IND` bit by bit (R28, R56) -/

section
variable (k : Block)

/-- `PFLAGS` as bits written one after another: the form whose bits the library's lemmas give. -/
theorem Block.pflags_eq_concat :
    k.pflags = (((BitVec.ofBool k.pulses.r34Reset.a).concat k.pulses.r34Set.a).concat k.pulses.r12Reset.a).concat
      k.pulses.r12Set.a := rfl

/-- The bits of `PFLAGS` are the flags, by pulse number. -/
theorem Block.pflags_getLsbD_index (i : PulseId) : k.pflags.getLsbD i.index = (k.pulses.get i).a := by
  cases i with
  | r12Set | r12Reset | r34Set | r34Reset =>
    simp only [PulseId.index, Pulses.get, Block.pflags_eq_concat, BitVec.getLsbD_concat_succ,
      BitVec.getLsbD_concat_zero, BitVec.getLsbD_ofBool, decide_true, Bool.true_and]

/-- `IND` as bits written one after another. -/
theorem Block.ind_eq_concat : k.ind = ((BitVec.ofBool k.cal).concat k.out15m).concat k.out20m := rfl

/-- The bits of `IND` are the indicators and the calibration line. -/
theorem Block.ind_getLsbD :
    k.ind.getLsbD 0 = k.out20m ∧ k.ind.getLsbD 1 = k.out15m ∧ k.ind.getLsbD 2 = k.cal := by
  simp only [Block.ind_eq_concat, BitVec.getLsbD_concat_succ, BitVec.getLsbD_concat_zero, BitVec.getLsbD_ofBool,
    decide_true, Bool.true_and, and_self]

end

/-- Three bits put together. -/
theorem concat_getLsbD_three : ∀ v : BitVec 3,
    ((BitVec.ofBool (v.getLsbD 2)).concat (v.getLsbD 1)).concat (v.getLsbD 0) = v := by
  decide

/-- Four bits put together. -/
theorem concat_getLsbD_four : ∀ v : BitVec 4,
    (((BitVec.ofBool (v.getLsbD 3)).concat (v.getLsbD 2)).concat (v.getLsbD 1)).concat (v.getLsbD 0) = v := by
  decide

/-! ### The state image (R56) -/

/-- The block of an image's twelve bytes, once `BAND` and `PREV_BAND` are read. -/
def blockOfBytes (b0 b1 b2 b3 : Byte) (band : Band) (prev : PrevBand) (b6 b7 b8 b9 b10 b11 : Byte) : Block :=
  { tick := b0, lastTick := b1, deb := b3 ++ b2, band := band, prevBand := prev,
    pulses := { r12Set := ⟨b6.getLsbD 0, b7⟩, r12Reset := ⟨b6.getLsbD 1, b8⟩,
                r34Set := ⟨b6.getLsbD 2, b9⟩, r34Reset := ⟨b6.getLsbD 3, b10⟩ },
    out15m := b11.getLsbD 1, out20m := b11.getLsbD 0, cal := b11.getLsbD 2 }

section
variable (b0 b1 b2 b3 b4 b5 b6 b7 b8 b9 b10 b11 : Byte)

/-- Which twelve bytes are read, and as which block. -/
theorem Block.ofImage_eq_some_iff (k : Block) :
    Block.ofImage [b0, b1, b2, b3, b4, b5, b6, b7, b8, b9, b10, b11] = some k ↔
      ∃ band prev, Band.ofByte b4 = some band ∧ PrevBand.ofByte b5 = some prev ∧ b6.toNat < 2 ^ 4 ∧ b11.toNat < 2 ^ 3
        ∧ blockOfBytes b0 b1 b2 b3 band prev b6 b7 b8 b9 b10 b11 = k := by
  simp only [ofImage, ← highBits_eq_zero_iff b6 (n := 4) (m := 4) rfl, ← highBits_eq_zero_iff b11 (n := 3) (m := 5) rfl]
  cases Band.ofByte b4 with
  | none => simp
  | some band =>
    cases PrevBand.ofByte b5 with
    | none => simp
    | some prev => simp [blockOfBytes, and_assoc]

/-- Which twelve bytes are refused. -/
theorem Block.ofImage_eq_none_iff :
    Block.ofImage [b0, b1, b2, b3, b4, b5, b6, b7, b8, b9, b10, b11] = none ↔
      Band.ofByte b4 = none ∨ PrevBand.ofByte b5 = none ∨ 2 ^ 4 ≤ b6.toNat ∨ 2 ^ 3 ≤ b11.toNat := by
  simp only [ofImage, highBits_eq_zero_iff b6 (n := 4) (m := 4) rfl, highBits_eq_zero_iff b11 (n := 3) (m := 5) rfl]
  cases Band.ofByte b4 with
  | none => simp
  | some band =>
    cases PrevBand.ofByte b5 with
    | none => simp
    | some prev =>
      simp only [ite_eq_right_iff, reduceCtorEq, imp_false, false_or]
      omega

/-- The image of a block that twelve bytes were read as. -/
theorem Block.image_blockOfBytes {band : Band} {prev : PrevBand} (h4 : b4 = band.code.setWidth 8)
    (h5 : b5 = prev.code.setWidth 8) (h6 : b6.toNat < 2 ^ 4) (h11 : b11.toNat < 2 ^ 3) :
    (blockOfBytes b0 b1 b2 b3 band prev b6 b7 b8 b9 b10 b11).image
      = [b0, b1, b2, b3, b4, b5, b6, b7, b8, b9, b10, b11] := by
  have hflags : (blockOfBytes b0 b1 b2 b3 band prev b6 b7 b8 b9 b10 b11).pflags = b6.setWidth 4 := by
    rw [← concat_getLsbD_four (b6.setWidth 4)]
    simp [pflags_eq_concat, blockOfBytes]
  have hind : (blockOfBytes b0 b1 b2 b3 band prev b6 b7 b8 b9 b10 b11).ind = b11.setWidth 3 := by
    rw [← concat_getLsbD_three (b11.setWidth 3)]
    simp [ind_eq_concat, blockOfBytes]
  rw [image, hflags, hind, setWidth_setWidth_of_lt b6 h6, setWidth_setWidth_of_lt b11 h11, h4, h5]
  have hlow : (b3 ++ b2 : DebWord).extractLsb' 0 8 = b2 := BitVec.extractLsb'_append_eq_right
  have hhigh : (b3 ++ b2 : DebWord).extractLsb' 8 8 = b3 := BitVec.extractLsb'_append_eq_left
  simp only [blockOfBytes, hlow, hhigh]

end

/-- The layout of R56, the halves of `DEB` as a truncation and a shift. -/
theorem Block.image_eq (k : Block) :
    k.image = [ k.tick, k.lastTick, k.deb.setWidth 8, (k.deb >>> 8).setWidth 8, k.band.code.setWidth 8,
      k.prevBand.code.setWidth 8, k.pflags.setWidth 8, k.pulses.r12Set.s, k.pulses.r12Reset.s, k.pulses.r34Set.s,
      k.pulses.r34Reset.s, k.ind.setWidth 8 ] := by
  have hlow : k.deb.extractLsb' 0 8 = k.deb.setWidth 8 := (BitVec.setWidth_eq_extractLsb' (by omega)).symm
  have hhigh : k.deb.extractLsb' 8 8 = (k.deb >>> 8).setWidth 8 := by
    apply BitVec.eq_of_toNat_eq
    simp
  rw [image, hlow, hhigh]

/-- Reading the image of a block gives the block. -/
theorem Block.ofImage_image (k : Block) : Block.ofImage k.image = some k := by
  rw [image, ofImage_eq_some_iff]
  refine ⟨k.band, k.prevBand, (Band.ofByte_eq_some_iff _ _).2 rfl, (PrevBand.ofByte_eq_some_iff _ _).2 rfl,
    toNat_setWidth_lt _ 8, toNat_setWidth_lt _ 8, ?_⟩
  have hdeb : k.deb.extractLsb' 8 8 ++ k.deb.extractLsb' 0 8 = k.deb := BitVec.extractLsb'_append_extractLsb'
  have hflag (i : PulseId) : (k.pflags.setWidth 8).getLsbD i.index = (k.pulses.get i).a := by
    rw [BitVec.getLsbD_setWidth, k.pflags_getLsbD_index, decide_eq_true (by cases i <;> decide), Bool.true_and]
  have hind (j : Nat) (hj : j < 8) : (k.ind.setWidth 8).getLsbD j = k.ind.getLsbD j := by
    rw [BitVec.getLsbD_setWidth, decide_eq_true hj, Bool.true_and]
  obtain ⟨h20, h15, hcal⟩ := k.ind_getLsbD
  have h0 : (k.pflags.setWidth 8).getLsbD 0 = k.pulses.r12Set.a := hflag .r12Set
  have h1 : (k.pflags.setWidth 8).getLsbD 1 = k.pulses.r12Reset.a := hflag .r12Reset
  have h2 : (k.pflags.setWidth 8).getLsbD 2 = k.pulses.r34Set.a := hflag .r34Set
  have h3 : (k.pflags.setWidth 8).getLsbD 3 = k.pulses.r34Reset.a := hflag .r34Reset
  simp only [blockOfBytes, hdeb, h0, h1, h2, h3, hind 0 (by omega), hind 1 (by omega), hind 2 (by omega), h20, h15, hcal]

/-- Settles O7: the layout, `PFLAGS` and `IND` bit by bit, and the refused images. -/
theorem stateImageLayoutAndRefusal : Obligations.StateImageLayoutAndRefusal := by
  refine ⟨Block.image_eq, Block.pflags_getLsbD_index, Block.ind_getLsbD,
    fun b0 b1 b2 b3 b4 b5 b6 b7 b8 b9 b10 b11 => ?_⟩
  rw [Block.ofImage_eq_none_iff, Band.ofByte_eq_none_iff, PrevBand.ofByte_eq_none_iff, or_assoc]

/-- A list of bytes that is read is twelve bytes long. -/
theorem Block.length_of_ofImage_eq_some {bytes : List Byte} {k : Block} (h : Block.ofImage bytes = some k) :
    ∃ b0 b1 b2 b3 b4 b5 b6 b7 b8 b9 b10 b11, bytes = [b0, b1, b2, b3, b4, b5, b6, b7, b8, b9, b10, b11] := by
  unfold ofImage at h
  split at h
  · exact ⟨_, _, _, _, _, _, _, _, _, _, _, _, rfl⟩
  · cases h

/-- Settles O8: `ofImage_image`, and the image of the block that twelve bytes are read as. -/
theorem stateImageRoundTrip : Obligations.StateImageRoundTrip := by
  refine ⟨Block.ofImage_image, fun bytes k h => ?_⟩
  obtain ⟨b0, b1, b2, b3, b4, b5, b6, b7, b8, b9, b10, b11, rfl⟩ := Block.length_of_ofImage_eq_some h
  obtain ⟨band, prev, h4, h5, h6, h11, rfl⟩ := (Block.ofImage_eq_some_iff ..).1 h
  exact Block.image_blockOfBytes b0 b1 b2 b3 b4 b5 b6 b7 b8 b9 b10 b11 ((Band.ofByte_eq_some_iff b4 band).1 h4)
    ((PrevBand.ofByte_eq_some_iff b5 prev).1 h5) h6 h11

end Sys2Proof.Machine
end

section
/-! Proofs for the assembler (30_encoding R57, R58): the words of a line decode to its expansion, and a line is read back from
its text, token by token: a word of letters or digits is one token, and a count is read from its decimal digits. -/

namespace Sys2Proof.Machine

/-! ### Assembled words (R57) -/

/-- Encoded operations decode to themselves. -/
theorem decodeAll_map_encode (is : List Instr) : decodeAll (is.map encode) = some is := by
  induction is with
  | nil => rfl
  | cons i is ih => rw [List.map_cons, decodeAll_cons_of_operation (decode_encode i), ih, Option.map_some]

/-- Settles O55: `decodeAll_map_encode` at the expansion; the four words' digits by evaluation. -/
theorem assembledWordsDecodeToTheirLine : Obligations.AssembledWordsDecodeToTheirLine :=
  ⟨fun ls => decodeAll_map_encode (ls.flatMap AsmLine.expand), by decide, by decide, by decide, by decide⟩

/-! ### Tokens (log 9) -/

/-- A text with no blank, comma or semicolon. -/
def PlainText (t : Text) : Prop := ∀ x ∈ t, x ≠ ' ' ∧ x ≠ ',' ∧ x ≠ ';'

@[simp] theorem plainText_nil : PlainText [] := nofun

@[simp] theorem plainText_cons (x : Char) (t : Text) :
    PlainText (x :: t) ↔ (x ≠ ' ' ∧ x ≠ ',' ∧ x ≠ ';') ∧ PlainText t := List.forall_mem_cons

/-- A text that is read as one token. -/
def IsToken (t : Text) : Prop := t ≠ [] ∧ PlainText t

/-- Plain characters go to the token that is being read. -/
theorem tokensFrom_append {t : Text} (ht : PlainText t) (acc u : Text) :
    tokensFrom acc (t ++ u) = tokensFrom (acc ++ t) u := by
  induction t generalizing acc with
  | nil => rw [List.nil_append, List.append_nil]
  | cons x xs ih =>
    obtain ⟨⟨hblank, hcomma, -⟩, hxs⟩ := (plainText_cons x xs).1 ht
    rw [List.cons_append, tokensFrom, if_neg hblank, if_neg hcomma, ih hxs, List.append_assoc, List.singleton_append]

theorem IsToken.tokenOf_eq {t : Text} (ht : IsToken t) : tokenOf t = [t] := by
  rw [tokenOf, if_neg (by simpa using ht.1)]

section
variable {m : Text} (hm : IsToken m)
include hm

/-- A plain text is one token. -/
theorem tokensFrom_word : tokensFrom [] m = [m] := by
  rw [← List.append_nil m, tokensFrom_append hm.2, tokensFrom, List.append_nil, List.nil_append, hm.tokenOf_eq]

/-- A plain text before a blank is a token. -/
theorem tokensFrom_word_blank (u : Text) : tokensFrom [] (m ++ ' ' :: u) = m :: tokensFrom [] u := by
  rw [tokensFrom_append hm.2, tokensFrom, if_pos rfl, List.nil_append, hm.tokenOf_eq, List.singleton_append]

/-- A plain text before a comma and a blank is a token, and the comma another. -/
theorem tokensFrom_word_comma (u : Text) : tokensFrom [] (m ++ ',' :: ' ' :: u) = m :: [','] :: tokensFrom [] u := by
  rw [tokensFrom_append hm.2, tokensFrom, if_neg (by decide), if_pos rfl, List.nil_append, hm.tokenOf_eq,
    List.singleton_append, tokensFrom, if_pos rfl]
  rfl

end

/-- A text with no semicolon has no comment. -/
theorem dropComment_eq_self {t : Text} (ht : ';' ∉ t) : dropComment t = t := by
  rw [dropComment, List.takeWhile_eq_self_iff]
  intro x hx
  exact bne_iff_ne.2 fun heq => ht (heq ▸ hx)

theorem IsToken.not_mem {t : Text} (ht : IsToken t) : ';' ∉ t := fun h => (ht.2 ';' h).2.2 rfl

section
variable {m x y : Text} (hm : IsToken m)
include hm

theorem parseLine_word : parseLine m = parseTokens [m] := by
  rw [parseLine, dropComment_eq_self hm.not_mem, tokensFrom_word hm]

variable (hx : IsToken x)
include hx

theorem parseLine_operand : parseLine (m ++ [' '] ++ x) = parseTokens [m, x] := by
  have hcomment : ';' ∉ m ++ [' '] ++ x := by
    simp [hm.not_mem, hx.not_mem]
  rw [parseLine, dropComment_eq_self hcomment, List.append_assoc, List.singleton_append,
    tokensFrom_word_blank hm, tokensFrom_word hx]

theorem parseLine_operands (hy : IsToken y) :
    parseLine (m ++ [' '] ++ x ++ [',', ' '] ++ y) = parseTokens [m, x, [','], y] := by
  have hcomment : ';' ∉ m ++ [' '] ++ x ++ [',', ' '] ++ y := by
    simp [hm.not_mem, hx.not_mem, hy.not_mem]
  have hsplit : m ++ [' '] ++ x ++ [',', ' '] ++ y = m ++ ' ' :: (x ++ ',' :: ' ' :: y) := by simp
  rw [parseLine, dropComment_eq_self hcomment, hsplit, tokensFrom_word_blank hm, tokensFrom_word_comma hx,
    tokensFrom_word hy]

end

/-! ### Operands (R57, R58) -/

theorem isToken_levelText (b : Level) : IsToken (levelText b) := by
  cases b <;> simp [IsToken, levelText]

theorem parseLevel_levelText (b : Level) : parseLevel (levelText b) = some b := by
  cases b <;> decide

/-- The value of a decimal digit is its distance from `0`. -/
theorem digitValue_of_isDigit {x : Char} (hx : x.isDigit = true) : digitValue x = some (x.toNat - '0'.toNat) :=
  if_pos (Char.isDigit_iff_toNat.1 hx)

/-- Decimal digits are read as the number the library reads. -/
theorem digitsFrom_eq_some {t : Text} (ht : ∀ x ∈ t, x.isDigit = true) (acc : Nat) :
    digitsFrom acc t = some (Nat.ofDigitChars 10 t acc) := by
  induction t generalizing acc with
  | nil => rfl
  | cons x xs ih =>
    obtain ⟨hx, hxs⟩ := List.forall_mem_cons.1 ht
    rw [digitsFrom, digitValue_of_isDigit hx, Nat.ofDigitChars_cons]
    exact ih hxs _

theorem isDigit_of_mem_decimal {n : Nat} {x : Char} (hx : x ∈ Nat.toDigits 10 n) : x.isDigit = true :=
  Nat.isDigit_of_mem_toDigits (by omega) le_rfl hx

theorem parseCount_of_digitsFrom {t : Text} {n : Nat} (ht : t ≠ []) (hdigits : digitsFrom 0 t = some n) (hn : 1 ≤ n) :
    parseCount t = some n := by
  cases t with
  | nil => exact absurd rfl ht
  | cons x xs => simp [parseCount, hdigits, hn]

/-- A count is read back from its decimal digits. -/
theorem parseCount_toDigits {n : Nat} (hn : 1 ≤ n) : parseCount (Nat.toDigits 10 n) = some n := by
  refine parseCount_of_digitsFrom Nat.toDigits_ne_nil ?_ hn
  rw [digitsFrom_eq_some fun _ => isDigit_of_mem_decimal, Nat.ofDigitChars_ten_toDigits]

theorem isToken_toDigits (n : Nat) : IsToken (Nat.toDigits 10 n) := by
  refine ⟨Nat.toDigits_ne_nil, fun x hx => ?_⟩
  have hdigit := isDigit_of_mem_decimal hx
  refine ⟨?_, ?_, ?_⟩ <;>
  · rintro rfl
    revert hdigit
    decide

/-! ### Lines (R57, R58) -/

/-- A line with one operand is read by its word, where the operand's text is plain. -/
theorem parseLine_levelText {m : Text} (hm : IsToken m) (b : Level) :
    parseLine (m ++ [' '] ++ levelText b) = parseTokens [m, levelText b] :=
  parseLine_operand hm (isToken_levelText b)

theorem parseLine_toDigits {m : Text} (hm : IsToken m) (n : Nat) :
    parseLine (m ++ [' '] ++ Nat.toDigits 10 n) = parseTokens [m, Nat.toDigits 10 n] :=
  parseLine_operand hm (isToken_toDigits n)

theorem parseLine_levelText_toDigits {m : Text} (hm : IsToken m) (b : Level) (n : Nat) :
    parseLine (m ++ [' '] ++ levelText b ++ [',', ' '] ++ Nat.toDigits 10 n)
      = parseTokens [m, levelText b, [','], Nat.toDigits 10 n] :=
  parseLine_operands hm (isToken_levelText b) (isToken_toDigits n)

/-- Settles O54: the tokens of each line's text, and the line they spell. -/
theorem assemblerReadsItsOwnText : Obligations.AssemblerReadsItsOwnText := by
  intro l hl
  cases l with
  | op i =>
    cases i with
    | iter b =>
      rw [AsmLine.text, parseLine_levelText (by simp [IsToken, wordITER])]
      simp [parseTokens, parseLevel_levelText]
    | tick =>
      rw [AsmLine.text, parseLine_word (by simp [IsToken, wordTICK])]
      simp [parseTokens]
    | reset =>
      rw [AsmLine.text, parseLine_word (by simp [IsToken, wordRESET])]
      simp [parseTokens, wordTICK, wordRESET]
  | ti b =>
    rw [AsmLine.text, parseLine_levelText (by simp [IsToken, wordTI])]
    simp [parseTokens, parseLevel_levelText, wordITER, wordTI]
  | hold b n =>
    rw [AsmLine.text, parseLine_levelText_toDigits (by simp [IsToken, wordHOLD])]
    simp [parseTokens, parseLevel_levelText, parseCount_toDigits (by simpa [AsmLine.wellFormed] using hl)]
  | press n =>
    rw [AsmLine.text, parseLine_toDigits (by simp [IsToken, wordPRESS])]
    simp [parseTokens, parseCount_toDigits (by simpa [AsmLine.wellFormed] using hl), wordITER, wordTI, wordPRESS]
  | release n =>
    rw [AsmLine.text, parseLine_toDigits (by simp [IsToken, wordRELEASE])]
    simp [parseTokens, parseCount_toDigits (by simpa [AsmLine.wellFormed] using hl), wordITER, wordTI, wordPRESS,
      wordRELEASE]
  | spin b n =>
    rw [AsmLine.text, parseLine_levelText_toDigits (by simp [IsToken, wordSPIN])]
    simp [parseTokens, parseLevel_levelText, parseCount_toDigits (by simpa [AsmLine.wellFormed] using hl), wordHOLD,
      wordSPIN]
  | ticks n =>
    rw [AsmLine.text, parseLine_toDigits (by simp [IsToken, wordTICKS])]
    simp [parseTokens, parseCount_toDigits (by simpa [AsmLine.wellFormed] using hl), wordITER, wordTI, wordPRESS,
      wordRELEASE, wordTICKS]

end Sys2Proof.Machine
end
